-- ==== Sys2Proof/Word.lean ====
section
/-! DEFINITION. The words of the DT-24: bytes, tags, stamps, checks and slot numbers. -/

namespace Sys2Proof

/-- One byte of the host link, or of a payload. -/
abbrev Byte := BitVec 8

/-- A topic's 24-bit tag; masks and catch patterns have the same width (00_scope, Conventions). -/
abbrev Tag := BitVec 24

/-- A part-clock reading in milliseconds (R14). -/
abbrev Stamp := BitVec 32

/-- The 16-bit check of a bus frame (R90) or of a host link frame (R145). -/
abbrev Crc := BitVec 16

/-- A slot's number, 0 to 23 (R2). -/
abbrev SlotNo := Fin 24

end Sys2Proof
end

