-- ==== Sys2Proof/Syntax.lean ====
section
/-! DEFINITION. The commands of the DT-24: one constructor for each row of spec/opcode_table.json. -/

namespace Sys2Proof

/-- What a bus frame carries after its tag (R89): a PUBLISH frame a payload, a QUERY frame nothing. -/
inductive FrameBody where
  | publish (payload : List Byte)
  | query
deriving DecidableEq, Repr

/-- One Dorhal frame as its fields (R25, R89). A PUBLISH frame's length is its payload's. -/
structure BusFrame where
  tag : Tag
  body : FrameBody
deriving DecidableEq, Repr

/-- The two kinds of bus frame (R25). -/
inductive FrameKind where
  | publish
  | query
deriving DecidableEq, Repr

/-- The six kinds of bus fault (R94). -/
inductive FaultKind where
  | coding
  | form
  | check
  | noAck
  | bitPassive
  | bitActive
deriving DecidableEq, Repr

/-- The commands: the steps of the part, each whole (95_what_each_step_holds.md). A host request's
operands are the bytes of the request at the head of the inbox (R154, log 1), so its constructor has none. -/
inductive Instr where
  /-- POWER_UP (R1). The operands are the levels of RATE1 and RATE0 (R144). -/
  | powerUp (rate1 rate0 : Bool)
  /-- IDENTIFY (R158). Its request is the head of the inbox. -/
  | identify
  /-- RESTART (R159). Its request is the head of the inbox. -/
  | restart
  /-- RESTART_TAKE_EFFECT (R159). -/
  | restartTakeEffect
  /-- SET_TIMING (R121). Its request is the head of the inbox. -/
  | setTiming
  /-- SET_MODE (R164). Its request is the head of the inbox. -/
  | setMode
  /-- GO_ONLINE (R117). Its request is the head of the inbox. -/
  | goOnline
  /-- GO_OFFLINE (R118). Its request is the head of the inbox. -/
  | goOffline
  /-- ENGINE_STATUS (R122). Its request is the head of the inbox. -/
  | engineStatus
  /-- DIAG_COUNTS (R171). Its request is the head of the inbox. -/
  | diagCounts
  /-- SET_MASKS (R5). Its request is the head of the inbox. -/
  | setMasks
  /-- CONFIG_SLOT (R15). Its request is the head of the inbox. -/
  | configSlot
  /-- ENABLE_SLOT (R16). Its request is the head of the inbox. -/
  | enableSlot
  /-- DISABLE_SLOT (R17). Its request is the head of the inbox. -/
  | disableSlot
  /-- WRITE_SLOT (R18). Its request is the head of the inbox. -/
  | writeSlot
  /-- READ_SLOT (R19). Its request is the head of the inbox. -/
  | readSlot
  /-- SEND_SLOT (R48). Its request is the head of the inbox. -/
  | sendSlot
  /-- QUERY_SLOT (R49). Its request is the head of the inbox. -/
  | querySlot
  /-- ABORT_SLOT (R50). Its request is the head of the inbox. -/
  | abortSlot
  /-- SET_CATCH (R82). Its request is the head of the inbox. -/
  | setCatch
  /-- TAKE_CATCH (R80). Its request is the head of the inbox. -/
  | takeCatch
  /-- NOTICE_CONTROL (R137). Its request is the head of the inbox. -/
  | noticeControl
  /-- ACK_NOTICES (R139). Its request is the head of the inbox. -/
  | ackNotices
  /-- RESYNC_NOTICES (R140). Its request is the head of the inbox. -/
  | resyncNotices
  /-- REQUEST_UNKNOWN_KIND (R154). Its request is the head of the inbox. -/
  | requestUnknownKind
  /-- HOST_FRAME_RECEIVED (R152). The operand is the bytes that arrived on HOST_IN (log 12). -/
  | hostFrameReceived (bytes : List Byte)
  /-- LENGTH_FAULT (R149). The operand is the bytes that arrived on HOST_IN, the bad LEN the last (log 12). -/
  | lengthFault (bytes : List Byte)
  /-- GAP_TIMEOUT (R150). The operand is the bytes that arrived before the gap (log 12). -/
  | gapTimeout (bytes : List Byte)
  /-- HELLO_BEGIN (R160). -/
  | helloBegin
  /-- REPLY_BEGIN (R157). -/
  | replyBegin
  /-- REJECT_BEGIN (R157). -/
  | rejectBegin
  /-- NOTICE_DELIVERY (R134). -/
  | noticeDelivery
  /-- FRAME_END (R27). The operand is the frame the frame end carries (R25). -/
  | frameEnd (frame : BusFrame)
  /-- SELECTION (R56). -/
  | selection
  /-- TX_SENT (R59). -/
  | txSent
  /-- TX_LOST (R60). -/
  | txLost
  /-- TX_FAULTED (R61). The operands are the kind and whether the fault came after the last tag bit (R96). -/
  | txFaulted (kind : FaultKind) (afterTag : Bool)
  /-- RX_FAULT (R108). The operands are the kind and the tag, absent when not all 24 tag bits had been read (R96). -/
  | rxFault (kind : FaultKind) (tag : Option Tag)
  /-- STOP_COMPLETE (R119). -/
  | stopComplete
  /-- SYNC_COMPLETE (R107). -/
  | syncComplete
  /-- RECOVERY_INTERVAL (R115). -/
  | recoveryInterval
  /-- BUS_STUCK (R116). -/
  | busStuck
  /-- PERIOD_EXPIRY (R52). -/
  | periodExpiry (slot : SlotNo)
  /-- DEADLINE_EXPIRY (R41). -/
  | deadlineExpiry (slot : SlotNo)
  /-- PART_CLOCK_ADVANCE (R14). -/
  | partClockAdvance
  /-- START_BIT_READ (R106). -/
  | startBitRead
deriving DecidableEq, Repr

end Sys2Proof
end

