-- ==== Sys2Proof/Config.lean ====
section
/-! DEFINITION. What the DT-24 fixes as numbers, and the one free value of the model. -/

namespace Sys2Proof.Config

/-- R158: the vendor code. -/
def vendorCode : Nat := 0x0157
/-- R158: the part code. -/
def partCode : Nat := 0x0024
/-- R158: the revision, which HELLO carries too. -/
def revision : Nat := 1
/-- R2, R158: the slot count. -/
def slotCount : Nat := 24
/-- R75, R158: the depth of the catch queue. -/
def catchDepth : Nat := 8
/-- R9, R158: the most payload bytes of a frame. -/
def maxPayload : Nat := 16
/-- R154, R158: the depth of the inbox. -/
def inboxDepth : Nat := 4
/-- R132, R158: the largest window. -/
def maxWindow : Nat := 8
/-- R156: how many replies the history keeps. -/
def historyDepth : Nat := 4
/-- R153: how many rejects may wait. -/
def rejectDepth : Nat := 4
/-- R12, R110, R129: where the counts of one byte stop. -/
def byteMax : Nat := 255
/-- R75, R161, R169: where the 16-bit counters stop. -/
def halfMax : Nat := 65535
/-- R113: the tx fault count at which the engine withdraws. -/
def withdrawAt : Nat := 224
/-- R115: how many quiet intervals a recovery counts. -/
def recoveryIntervals : Nat := 64
/-- R116: the milliseconds after which the bus-stuck flag is set. -/
def stuckAfter : Nat := 1000
/-- R97: the bits of a fault burst. -/
def burstLength : Nat := 8
/-- R98: the consecutive passive bits of a fault delimiter. -/
def delimiterLength : Nat := 8
/-- R88, R89: the passive bits of a gap. -/
def gapLength : Nat := 3
/-- R102: the passive bits of a restrained suspension. -/
def suspensionLength : Nat := 8
/-- R150, log 12: the clock advances since a byte that a gap of more than 10 ms holds at the least. -/
def gapAtLeast : Nat := 10
/-- R150, log 12: the clock advances since a byte that only a gap of more than 10 ms can hold. -/
def gapSurely : Nat := 11

/-- FREE VALUE (log 6). Whether the part's fault burst has ended by the moment a GO_OFFLINE is taken in ACTIVE:
R106 makes it the end of the frame in progress, and no command carries the bit times that decide it. It is asked
only until the part clock's second advance since the fault (log 21). Applied to `State.freeCount`, so that each
question has an answer of its own. -/
opaque burstOver : Nat → Bool

end Sys2Proof.Config
end

