-- ==== Sys2Proof/Machine/State.lean ====
section
/-! DEFINITION. The state of the DT-24 as plain data, the two ways a step can stop, and the state after reset. -/

namespace Sys2Proof.Machine

/-! ### The slot record (01_the_slot_table.md) -/

/-- R2: what a slot does. -/
inductive Role where
  | none
  | publish
  | subscribe
deriving DecidableEq, Repr

/-- R4: which mask a slot compares under. -/
inductive Match where
  | exact
  | maskA
  | maskB
deriving DecidableEq, Repr

/-- R3: the configured length, 0 to 16 or ANY. -/
inductive CfgLength where
  | exact (n : Nat)
  | any
deriving DecidableEq, Repr

/-- R3: the retry limit, 0 to 14 or UNLIMITED. -/
inductive RetryLimit where
  | limit (n : Nat)
  | unlimited
deriving DecidableEq, Repr

/-- R3: the configuration fields that CONFIG_SLOT writes. -/
structure SlotConfig where
  role : Role
  tag : Tag
  mtch : Match
  length : CfgLength
  interval : Nat
  retryLimit : RetryLimit
  answer : Bool
  notify : Bool
deriving DecidableEq, Repr

/-- R6: a slot's life. -/
inductive Life where
  | disabled
  | enabled
  | draining
deriving DecidableEq, Repr

/-- R7: a slot's transmit state. -/
inductive TxState where
  | idle
  | pending
  | onBus
deriving DecidableEq, Repr

/-- R7: why a slot wants the bus. -/
inductive Reason where
  | send
  | answer
  | query
deriving DecidableEq, Repr

/-- R7: the set of a slot's reasons. -/
structure Reasons where
  send : Bool
  answer : Bool
  query : Bool
deriving DecidableEq, Repr

/-- R7: the empty set. -/
def Reasons.empty : Reasons := ⟨false, false, false⟩

/-- R11: what the host has seen of a subscribe slot's value. -/
inductive DataState where
  | empty
  | fresh
  | seen
deriving DecidableEq, Repr

/-- R11: whether a subscribe slot's value is in time. -/
inductive Freshness where
  | current
  | stale
deriving DecidableEq, Repr

/-- R13: a slot's timer. `due` is a timer whose count would have reached 0 at the last clock advance
and whose expiry is not yet taken (log 3). -/
inductive Timer where
  | stopped
  | running (ms : Nat)
  | due
deriving DecidableEq, Repr

/-- R2 to R13: one slot record. The payload's length is the payload-length field (R9). -/
structure Slot where
  cfg : SlotConfig
  life : Life
  tx : TxState
  reasons : Reasons
  again : Bool
  abort : Bool
  retries : Nat
  payload : List Byte
  seq : Byte
  stamp : Stamp
  dataState : DataState
  freshness : Freshness
  overrun : Nat
  lengthRejects : Nat
  skipped : Nat
  timer : Timer
deriving DecidableEq, Repr

/-- R3: the neutral configuration of a slot of role NONE. -/
def SlotConfig.neutral : SlotConfig :=
  { role := .none, tag := 0, mtch := .exact, length := .exact 0, interval := 0,
    retryLimit := .limit 0, answer := false, notify := false }

/-- R23: a slot after power-up. -/
def Slot.reset : Slot :=
  { cfg := .neutral, life := .disabled, tx := .idle, reasons := .empty, again := false,
    abort := false, retries := 0, payload := [], seq := 0, stamp := 0, dataState := .empty,
    freshness := .current, overrun := 0, lengthRejects := 0, skipped := 0, timer := .stopped }

/-! ### The transmit buffer (03_transmission.md) -/

/-- R56: the one record of the transmit buffer. -/
structure TxRecord where
  slot : SlotNo
  frame : BusFrame
deriving DecidableEq, Repr

/-! ### The catch queue (04_the_catch_queue.md) -/

/-- R76: one caught frame. A QUERY frame's length is 0 and its payload empty. -/
structure CatchRecord where
  frame : BusFrame
  stamp : Stamp
deriving DecidableEq, Repr

/-- R75: the catch filter, the queue (oldest first) and the overflow count. -/
structure CatchQueue where
  enable : Bool
  mask : Tag
  pattern : Tag
  queue : List CatchRecord
  overflow : Nat
deriving DecidableEq, Repr

/-- R85. -/
def CatchQueue.reset : CatchQueue :=
  { enable := false, mask := 0xFFFFFF, pattern := 0, queue := [], overflow := 0 }

/-! ### The bus engine (05_the_dorhal_bus.md, 06_the_bus_engine.md) -/

/-- R104: the six engine states. -/
inductive EngineState where
  | offline
  | syncing
  | active
  | stopping
  | withdrawn
  | recovering
deriving DecidableEq, Repr

/-- R163: the mode. -/
inductive Mode where
  | normal
  | listen
  | loopback
deriving DecidableEq, Repr

/-- R112: the standing, worked out from the fault counts (`Engine.standing`). -/
inductive Standing where
  | normal
  | caution
  | restrained
deriving DecidableEq, Repr

/-- R87: the six bit rates, in kbit/s. -/
inductive Rate where
  | k25
  | k50
  | k100
  | k200
  | k400
  | k800
deriving DecidableEq, Repr

/-- R87: the six sample points, in percent of a bit. -/
inductive SamplePoint where
  | p60
  | p65
  | p70
  | p75
  | p80
  | p85
deriving DecidableEq, Repr

/-- R94: whether the part was the frame's transmitter. -/
inductive Direction where
  | transmit
  | receive
deriving DecidableEq, Repr

/-- R122: the last-fault record. `kind = none` is NONE: no fault since the last reset. -/
structure LastFault where
  kind : Option FaultKind
  direction : Direction
  tag : Option Tag
  stamp : Stamp
deriving DecidableEq, Repr

/-- R97, R98, R106: what the engine is doing with the line. `quiet` is no frame in progress; `burst` begins at
the part's fault and holds whether its burst is active and whether the part clock has advanced since;
`delimiter` is the line after a burst that is surely over (log 21), no frame in progress; `gap` follows a frame
that ended valid or sent. The next frame's event says that the waits are over (log 7). -/
inductive BusPhase where
  | quiet
  | receiving
  | sending
  | burst (active ticked : Bool)
  | delimiter
  | gap
deriving DecidableEq, Repr

/-- 06, opening list: the bus engine's state. The standing is not stored: it is worked out from the two
counts (R112). -/
structure Engine where
  state : EngineState
  mode : Mode
  rate : Rate
  samplePoint : SamplePoint
  txCount : Nat
  rxCount : Nat
  recoveryOwed : Bool
  progress : Nat
  busStuck : Bool
  watchMs : Nat
  lastFault : LastFault
  suspensionOwed : Bool
  phase : BusPhase
deriving DecidableEq, Repr

/-- R125. The direction of a record of kind NONE is the model's (log 10). -/
def LastFault.reset : LastFault :=
  { kind := none, direction := .transmit, tag := none, stamp := 0 }

/-- R125. -/
def Engine.reset : Engine :=
  { state := .offline, mode := .normal, rate := .k100, samplePoint := .p75, txCount := 0,
    rxCount := 0, recoveryOwed := false, progress := 0, busStuck := false, watchMs := 0,
    lastFault := .reset, suspensionOwed := false, phase := .quiet }

/-! ### The diagnostic counters (09_diagnostic_modes_and_counters.md) -/

/-- R169: the eleven engine diagnostic counters. -/
structure DiagCounters where
  framesSent : Nat
  framesValid : Nat
  arbitrationLosses : Nat
  coding : Nat
  form : Nat
  check : Nat
  noAck : Nat
  bitPassive : Nat
  bitActive : Nat
  unclaimed : Nat
  tagClashes : Nat
deriving DecidableEq, Repr

/-- R170. -/
def DiagCounters.zero : DiagCounters := ⟨0, 0, 0, 0, 0, 0, 0, 0, 0, 0, 0⟩

/-! ### The notice unit (07_notices.md) -/

/-- R127: the kinds of a slot's notices, in the order of their rank (R133). -/
inductive SlotKind where
  | sendFailed
  | stale
  | drained
  | received
  | sent
  | querySeen
deriving DecidableEq, Repr

/-- R126: one of the 149 pairs of source and kind. -/
inductive Pair where
  | state
  | tagClash
  | busFault
  | overflow
  | slot (n : SlotNo) (kind : SlotKind)
  | arrival
deriving DecidableEq, Repr

/-- R64: why a frame was given up. -/
inductive FailCause where
  | retries
  | aborted
deriving DecidableEq, Repr

/-- R66: the outcome that DRAINED carries. -/
inductive DrainOutcome where
  | sent
  | lost
  | faulted
  | exhausted
deriving DecidableEq, Repr

/-- R128: what an event of each kind carries. -/
inductive Detail where
  | state (state : EngineState) (standing : Standing) (recoveryOwed busStuck : Bool)
  | tagClash (tag : Tag) (slot : SlotNo)
  | busFault (kind : FaultKind) (direction : Direction)
  | overflow (count : Nat) (tag : Tag) (kind : FrameKind)
  | arrival (fill : Nat) (tag : Tag) (kind : FrameKind)
  | sendFailed (cause : FailCause) (kind : FrameKind) (reasons : Reasons) (retries : Nat)
  | stale (stamp : Stamp)
  | drained (outcome : DrainOutcome)
  | received (tag : Tag) (length : Nat) (seq : Byte)
  | sent (kind : FrameKind) (reasons : Reasons) (seq : Byte) (faulted : Nat)
  | querySeen (tag : Tag)
deriving DecidableEq, Repr

/-- R126: what an entry holds beside its pair and its status. -/
structure Entry where
  count : Nat
  firstStamp : Stamp
  detail : Detail
deriving DecidableEq, Repr

/-- R126: an OUTSTANDING entry, with the number it was sent under. -/
structure Numbered where
  entry : Entry
  number : Byte
deriving DecidableEq, Repr

/-- R126: the notice unit. Both lists are keyed by pair and kept in the order of the pairs' rank (R133),
so that equal sets are equal data. `gate = true` is OPEN. -/
structure Notices where
  pending : List (Pair × Entry)
  outstanding : List (Pair × Numbered)
  gate : Bool
  window : Nat
  stateEnable : Bool
  tagClashEnable : Bool
  busFaultEnable : Bool
  catchEnable : Bool
  nextNumber : Byte
deriving DecidableEq, Repr

/-- R143. -/
def Notices.reset : Notices :=
  { pending := [], outstanding := [], gate := false, window := 4, stateEnable := true,
    tagClashEnable := false, busFaultEnable := false, catchEnable := false, nextNumber := 0 }

/-! ### The host link (08_the_host_link.md) -/

/-- R144: the four baud rates. -/
inductive Baud where
  | b115200
  | b230400
  | b460800
  | b921600
deriving DecidableEq, Repr

/-- R149, R150: the framer. `buf` is the partial frame from its SYNC on, empty while hunting; `crc` its
running CRC; `sinceLast` the clock advances since its last byte, stopping at 11 (log 12). -/
structure Framer where
  buf : List Byte
  crc : Crc
  sinceLast : Nat
deriving DecidableEq, Repr

/-- R149: hunting, no partial frame. -/
def Framer.hunting : Framer := { buf := [], crc := 0xFFFF, sinceLast := 0 }

/-- R154: a request as the inbox holds it. -/
structure Request where
  kind : Byte
  seq : Byte
  body : List Byte
deriving DecidableEq, Repr

/-- R156: one entry of the reply history. -/
structure HistEntry where
  seq : Byte
  kind : Byte
  frame : List Byte
deriving DecidableEq, Repr

/-- R148: why a frame was rejected. -/
inductive RejectReason where
  | check
  | full
deriving DecidableEq, Repr

/-- R148, R151, R152: a REJECT. -/
structure Reject where
  reason : RejectReason
  seq : Byte
  seqUnknown : Bool
  kind : Byte
deriving DecidableEq, Repr

/-- R157: what waits for the line in the one order of replies and rejects. -/
inductive OutItem where
  | reply (fresh : Bool) (frame : List Byte)
  | reject (r : Reject)
deriving DecidableEq, Repr

/-- R154, R159: the request processor: free; a fresh reply of its own waits; a RESTART was taken and its
reply waits; the RESTART reply is on the line. -/
inductive Processor where
  | free
  | replyWaiting
  | restartReplyWaiting
  | restartReplyOnLine
deriving DecidableEq, Repr

/-- R148: the cause a HELLO carries. -/
inductive HelloCause where
  | powerUp
  | restart
deriving DecidableEq, Repr

/-- R161: the six link counters. -/
structure LinkCounters where
  lengthFaults : Nat
  gapTimeouts : Nat
  checkFailures : Nat
  rejectsDropped : Nat
  dupResent : Nat
  dupDiscarded : Nat
deriving DecidableEq, Repr

/-- R161. -/
def LinkCounters.zero : LinkCounters := ⟨0, 0, 0, 0, 0, 0⟩

/-- R144 to R162: the host link. `inbox`, `history` and `waiting` are oldest first; the rejects among
`waiting` are the pending-rejects store (R153). `hostOut` is the frame the arbiter last began, none after a
reset (log 5). -/
structure Link where
  baud : Baud
  framer : Framer
  inbox : List Request
  history : List HistEntry
  waiting : List OutItem
  processor : Processor
  helloOwed : Option HelloCause
  hostOut : Option (List Byte)
  counters : LinkCounters
deriving DecidableEq, Repr

/-- R162: the host link after a reset, at a rate and with a cause of HELLO. -/
def Link.reset (baud : Baud) (cause : HelloCause) : Link :=
  { baud := baud, framer := .hunting, inbox := [], history := [], waiting := [], processor := .free,
    helloOwed := some cause, hostOut := none, counters := .zero }

/-! ### The state -/

/-- The whole part, and the queue of the commands that wait (first in, first out). `freeCount` is the
model's own field (log 6). -/
structure State where
  slots : Vector Slot 24
  maskA : Tag
  maskB : Tag
  clock : Stamp
  txBuffer : Option TxRecord
  catchQ : CatchQueue
  engine : Engine
  diag : DiagCounters
  notices : Notices
  link : Link
  freeCount : Nat
  pending : List Instr
deriving DecidableEq, Repr

/-- Why the part's model stops. The spec gives the part no stop of its own. -/
inductive Fault where
  /-- Raised by FRAME_END, TX_FAULTED and RX_FAULT on operands that are not well formed (`Instr.wf`): no
  event of the part carries them. Safe: the model stops where the hardware has no behaviour. -/
  | illFormedCommand
deriving DecidableEq, Repr

/-- Why a command has no meaning. -/
inductive Refusal where
  /-- Raised by `exec` for a command whose meaning is not written yet; no arm of this model raises it. Safe. -/
  | notModelled (mnemonic : String)
deriving DecidableEq, Repr

/-- The values every block takes at a reset (R23, R24, R74, R85, R125, R143, R162, R170), with what the two
resets take differently: the part clock, the baud rate and the cause of HELLO. -/
def State.afterReset (clock : Stamp) (baud : Baud) (cause : HelloCause) (freeCount : Nat)
    (pending : List Instr) : State :=
  { slots := Vector.replicate 24 Slot.reset, maskA := 0xFFFFFF, maskB := 0xFFFFFF, clock := clock,
    txBuffer := none, catchQ := .reset, engine := .reset, diag := .zero, notices := .reset,
    link := .reset baud cause, freeCount := freeCount, pending := pending }

/-- The part right after power-up, with both rate pins low (log 11) and no command waiting. -/
def State.reset : State := State.afterReset 0 .b115200 .powerUp 0 []

end Sys2Proof.Machine
end

