-- ==== Sys2Proof/WellFormed.lean ====
section
/-! DEFINITION. Which operands a command of the part can carry. -/

namespace Sys2Proof

/-- R9, R25, R94: a frame holds at most 16 payload bytes. -/
def BusFrame.wf (f : BusFrame) : Bool :=
  match f.body with
  | .publish payload => decide (payload.length ≤ Config.maxPayload)
  | .query => true

/-- R94, R95, R96: the faults a transmitter detects. FORM and NO_ACK come after the check, so after the
last tag bit; CODING and CHECK are receivers' faults. -/
def txFaultWf (kind : FaultKind) (afterTag : Bool) : Bool :=
  match kind with
  | .coding | .check => false
  | .form | .noAck => afterTag
  | .bitPassive | .bitActive => true

/-- R94, R95, R96: the faults a receiver detects. FORM, CHECK and the ack slot's BIT_ACTIVE come after
the last tag bit; NO_ACK and BIT_PASSIVE are the transmitter's. -/
def rxFaultWf (kind : FaultKind) (tag : Option Tag) : Bool :=
  match kind with
  | .coding => true
  | .form | .check | .bitActive => tag.isSome
  | .noAck | .bitPassive => false

/-- A command whose operands an event of the part can carry. -/
def Instr.wf (i : Instr) : Bool :=
  match i with
  | .frameEnd frame => frame.wf
  | .txFaulted kind afterTag => txFaultWf kind afterTag
  | .rxFault kind tag => rxFaultWf kind tag
  | _ => true

end Sys2Proof
end

