-- ==== Sys2Proof/Machine/Ops.lean ====
section
/-! DEFINITION. The named operations over State: one update per block, the slot table's and the notice
unit's shared operations. -/

namespace Sys2Proof.Machine

/-- How one command ends. -/
abbrev Out := Host.Outcome State Fault Refusal

/-- 00_scope, Conventions: a saturating count stops at its largest value. -/
def satAdd (cap n k : Nat) : Nat := min cap (n + k)

/-! ### One update per part of State -/

def State.setMasks (s : State) (a b : Tag) : State := { s with maskA := a, maskB := b }
def State.setClock (s : State) (c : Stamp) : State := { s with clock := c }
def State.setTxBuffer (s : State) (b : Option TxRecord) : State := { s with txBuffer := b }
def State.setCatch (s : State) (c : CatchQueue) : State := { s with catchQ := c }
def State.setEngine (s : State) (e : Engine) : State := { s with engine := e }
def State.setDiag (s : State) (d : DiagCounters) : State := { s with diag := d }
def State.setNotices (s : State) (n : Notices) : State := { s with notices := n }
def State.setLink (s : State) (l : Link) : State := { s with link := l }
def State.setFreeCount (s : State) (n : Nat) : State := { s with freeCount := n }
def State.setPending (s : State) (q : List Instr) : State := { s with pending := q }
def State.setSlots (s : State) (v : Vector Slot 24) : State := { s with slots := v }

/-- The record of slot `n` (R2). -/
def State.slot (s : State) (n : SlotNo) : Slot := s.slots.get n

/-- Replaces the record of slot `n` and no other. -/
def State.setSlot (s : State) (n : SlotNo) (x : Slot) : State := s.setSlots (s.slots.set n x)

/-- The slot numbers in slot-number order. -/
def allSlots : List SlotNo :=
  [0, 1, 2, 3, 4, 5, 6, 7, 8, 9, 10, 11, 12, 13, 14, 15, 16, 17, 18, 19, 20, 21, 22, 23]

/-- One function over every slot record. -/
def mapSlots (f : Slot → Slot) (v : Vector Slot 24) : Vector Slot 24 :=
  ⟨⟨v.toList.map f⟩, by simp⟩

/-! ### Reasons, stamps and timers -/

/-- R7: a reason joins the set, which holds no duplicates. -/
def Reasons.add (r : Reasons) : Reason → Reasons
  | .send => { r with send := true }
  | .answer => { r with answer := true }
  | .query => { r with query := true }

/-- R32: QUERY leaves the set. -/
def Reasons.dropQuery (r : Reasons) : Reasons := { r with query := false }

/-- R7: whether the set is empty. -/
def Reasons.isEmpty (r : Reasons) : Bool := !(r.send || r.answer || r.query)

/-- R10: a slot's stamp, never 0 once taken. -/
def slotStamp (clock : Stamp) : Stamp := if clock = 0 then 1 else clock

/-- R13: a timer at the full interval; an interval of 0 never starts one. -/
def Timer.start (interval : Nat) : Timer := if interval = 0 then .stopped else .running interval

/-- R13: what one advance of the part clock does to a timer; a count that would reach 0 makes it due. -/
def Timer.tick : Timer → Timer
  | .stopped => .stopped
  | .running ms => if ms ≤ 1 then .due else .running (ms - 1)
  | .due => .due

/-! ### Changes of one slot record -/

/-- R15: a slot record as CONFIG_SLOT leaves it. -/
def Slot.configured (cfg : SlotConfig) : Slot :=
  { Slot.reset with
    cfg := cfg
    payload := match cfg.role, cfg.length with
      | .publish, .exact n => List.replicate n 0
      | _, _ => [] }

/-- R3: what CONFIG_SLOT stores of the fields given: neutral values for role NONE, and answer off
for SUBSCRIBE. -/
def SlotConfig.stored (cfg : SlotConfig) : SlotConfig :=
  match cfg.role with
  | .none => .neutral
  | .publish => cfg
  | .subscribe => { cfg with answer := false }

/-- R47: a reason is added by the slot's transmit state; ON_BUS a SEND or QUERY sets the again mark
and an ANSWER, which cannot arrive, does nothing. -/
def Slot.want (x : Slot) (r : Reason) : Slot :=
  match x.tx with
  | .idle => { x with reasons := x.reasons.add r, tx := .pending }
  | .pending => { x with reasons := x.reasons.add r }
  | .onBus => match r with
    | .answer => x
    | .send => { x with again := true }
    | .query => { x with again := true }

/-- R16: the slot becomes ENABLED and its timer starts. -/
def Slot.enable (x : Slot) : Slot :=
  { x with life := .enabled, tx := .idle, timer := .start x.cfg.interval }

/-- R17, R66: the slot becomes DISABLED and IDLE, with no reasons, no marks and its timer stopped. -/
def Slot.disable (x : Slot) : Slot :=
  { x with life := .disabled, tx := .idle, reasons := .empty, again := false, abort := false,
           retries := 0, timer := .stopped }

/-- R17: the disable of an ON_BUS slot. -/
def Slot.drain (x : Slot) : Slot := { x with life := .draining, timer := .stopped }

/-- R50, R67: the slot gives up what it waits to send. -/
def Slot.giveUp (x : Slot) : Slot :=
  { x with tx := .idle, reasons := .empty, again := false, abort := false, retries := 0 }

/-! ### The notice set (07_notices.md) -/

/-- R133: the place of a slot's kinds in the rank. -/
def SlotKind.rank : SlotKind → Nat
  | .sendFailed => 0
  | .stale => 1
  | .drained => 2
  | .received => 3
  | .sent => 4
  | .querySeen => 5

/-- R133: the rank of a pair, the highest first as the lowest number. -/
def Pair.rank : Pair → Nat
  | .state => 0
  | .tagClash => 1
  | .busFault => 2
  | .overflow => 3
  | .slot n k => 4 + 6 * n.val + k.rank
  | .arrival => 148

/-- The value a keyed list holds for a pair. -/
def keyedGet {α : Type} (p : Pair) : List (Pair × α) → Option α
  | [] => none
  | (q, a) :: rest => if q = p then some a else keyedGet p rest

/-- Sets the value of a pair from the value there, at the place its rank gives it. -/
def keyedPut {α : Type} (p : Pair) (f : Option α → α) : List (Pair × α) → List (Pair × α)
  | [] => [(p, f none)]
  | (q, a) :: rest =>
    if q = p then (p, f (some a)) :: rest
    else if p.rank < q.rank then (p, f none) :: (q, a) :: rest
    else (q, a) :: keyedPut p f rest

/-- The canonical form of a keyed list: ranks strictly rising, so one entry a pair and one order. -/
def keyedWf {α : Type} : List (Pair × α) → Bool
  | [] => true
  | [_] => true
  | (p, _) :: (q, b) :: rest => decide (p.rank < q.rank) && keyedWf ((q, b) :: rest)

/-- R129: the entry an event makes, or folds into. -/
def Entry.fold (clock : Stamp) (d : Detail) : Option Entry → Entry
  | none => { count := 1, firstStamp := clock, detail := d }
  | some e => { e with count := satAdd Config.byteMax e.count 1, detail := d }

/-- R129: an event is recorded against its pair's pending entry. -/
def Notices.record (nt : Notices) (clock : Stamp) (p : Pair) (d : Detail) : Notices :=
  { nt with pending := keyedPut p (Entry.fold clock d) nt.pending }

/-- R127: the enable of a pair; DRAINED is always recorded. -/
def State.eventEnabled (s : State) : Pair → Bool
  | .state => s.notices.stateEnable
  | .tagClash => s.notices.tagClashEnable
  | .busFault => s.notices.busFaultEnable
  | .overflow => s.notices.catchEnable
  | .arrival => s.notices.catchEnable
  | .slot n k => k = .drained || (s.slot n).cfg.notify

/-- R129, R130: an event is raised to the notice unit, which records it when its enable is on. -/
def State.raise (s : State) (p : Pair) (d : Detail) : State :=
  if s.eventEnabled p then s.setNotices (s.notices.record s.clock p d) else s

/-- R123: the STATE event, with the engine's values as they stand. Its standing is passed in, being
worked out from the counts. -/
def State.raiseState (s : State) (standing : Standing) : State :=
  s.raise .state (.state s.engine.state standing s.engine.recoveryOwed s.engine.busStuck)

end Sys2Proof.Machine
end

