-- ==== Sys2Proof/Machine/Flags.lean ====
section
/-! DEFINITION. What is worked out from State: matching, standing, what the engine may do with the line, the
counters of faults. -/

namespace Sys2Proof.Machine

/-! ### Kinds and matching -/

/-- R25: a frame's kind. -/
def frameKind (f : BusFrame) : FrameKind :=
  match f.body with
  | .publish _ => .publish
  | .query => .query

/-- R76, R89: a frame's payload, empty for a QUERY frame. -/
def framePayload (f : BusFrame) : List Byte :=
  match f.body with
  | .publish payload => payload
  | .query => []

/-- R4: two tags hold the same value wherever the mask holds 1. -/
def tagMatches (mask a b : Tag) : Bool := a &&& mask == b &&& mask

/-- R4: the mask that a slot's match field picks. -/
def State.maskOf (s : State) : Match → Tag
  | .exact => 0xFFFFFF
  | .maskA => s.maskA
  | .maskB => s.maskB

/-- R4: a received tag matches a slot under the slot's own match field. -/
def State.slotMatches (s : State) (x : Slot) (tag : Tag) : Bool :=
  tagMatches (s.maskOf x.cfg.mtch) tag x.cfg.tag

/-! ### Standing and STATE events -/

/-- R112: the standing of a count. -/
def standingOf (count : Nat) : Standing :=
  if count ≤ 63 then .normal else if count ≤ 111 then .caution else .restrained

/-- R112: the standing is worked out from the larger of the two fault counts. -/
def Engine.standing (e : Engine) : Standing := standingOf (max e.txCount e.rxCount)

/-- R123: one STATE event when an event of the engine changed its state, standing or bus-stuck flag. -/
def State.raiseStateIfChanged (s : State) (before : Engine) : State :=
  if s.engine.state ≠ before.state ∨ s.engine.standing ≠ before.standing
      ∨ s.engine.busStuck ≠ before.busStuck then
    s.raiseState s.engine.standing
  else s

/-- An event of the engine that leaves it as `e`: the engine is replaced, and a STATE event raised if it
calls for one (R123). -/
def State.engineEvent (s : State) (e : Engine) : State := (s.setEngine e).raiseStateIfChanged s.engine

/-! ### What the engine does with the line -/

/-- R104: the states in which the engine receives frames. -/
def Engine.onLine (e : Engine) : Bool := e.state = .active || e.state = .stopping

/-- R116: the states in which the bus-stuck watch runs. -/
def Engine.watching (e : Engine) : Bool := e.state = .syncing || e.state = .recovering

/-- R116, R167: the watch runs and milliseconds can add up in it. In LOOPBACK the loop completes a quiet interval
every 12 bits, so no whole millisecond passes without one and the watch never reaches its 1000. -/
def Engine.watchCounts (e : Engine) : Bool := e.watching && e.mode ≠ .loopback

/-- R104, R106, R119, R167: a frame of another node may end, or fault, for the part as receiver. In ACTIVE
a frame whose start bit was not given as a command of its own is begun by the same command (log 9); in
STOPPING only the frame in progress is left; in LOOPBACK the line is not read. -/
def Engine.receives (e : Engine) : Bool :=
  e.mode ≠ .loopback &&
    ((e.state = .active && e.phase ≠ .sending) || (e.state = .stopping && e.phase = .receiving))

/-- R54: the engine's and the mode's part of a transmit opportunity; that the gap, the delimiter and the
suspension are over is what SELECTION says by coming (log 7). -/
def Engine.mayOffer (e : Engine) : Bool :=
  e.state = .active && (e.mode = .normal || e.mode = .loopback)
    && e.phase ≠ .receiving && e.phase ≠ .sending

/-- R54: a transmit opportunity may stand. -/
def State.opportunity (s : State) : Bool := s.engine.mayOffer && s.txBuffer.isNone

/-- R106, R118: the engine leaves the bus: no frame in progress, no suspension owed, the watch stopped. -/
def Engine.leave (e : Engine) (st : EngineState) : Engine :=
  { e with state := st, phase := .quiet, suspensionOwed := false, progress := 0, busStuck := false,
           watchMs := 0 }

/-- R169: the counter of a fault's kind goes up. -/
def DiagCounters.countFault (d : DiagCounters) : FaultKind → DiagCounters
  | .coding => { d with coding := satAdd Config.halfMax d.coding 1 }
  | .form => { d with form := satAdd Config.halfMax d.form 1 }
  | .check => { d with check := satAdd Config.halfMax d.check 1 }
  | .noAck => { d with noAck := satAdd Config.halfMax d.noAck 1 }
  | .bitPassive => { d with bitPassive := satAdd Config.halfMax d.bitPassive 1 }
  | .bitActive => { d with bitActive := satAdd Config.halfMax d.bitActive 1 }

end Sys2Proof.Machine
end

