-- ==== Sys2Proof/Machine/Operands.lean ====
section
/-! DEFINITION. The fields of the host link's bodies: their codes in both directions (R146), the bodies of
the requests with the checks of their length and fields (R147, R154), and the bodies of the replies. -/

namespace Sys2Proof.Machine

/-! ### Values as bytes (R146) -/

/-- One byte of a count or an index. -/
def byteOf (n : Nat) : Byte := BitVec.ofNat 8 n

/-- R146: on 1, off 0. -/
def flagByte (b : Bool) : Byte := if b then 1 else 0

/-- Two bytes, most significant first. -/
def halfBytes (n : Nat) : List Byte := [byteOf (n / 256), byteOf n]

/-- Three bytes, most significant first. -/
def tagBytes (t : Tag) : List Byte := [t.extractLsb' 16 8, t.extractLsb' 8 8, t.extractLsb' 0 8]

/-- Four bytes, most significant first. -/
def stampBytes (t : Stamp) : List Byte :=
  [t.extractLsb' 24 8, t.extractLsb' 16 8, t.extractLsb' 8 8, t.extractLsb' 0 8]

def slotByte (n : SlotNo) : Byte := byteOf n.val

def roleByte : Role → Byte
  | .none => 0
  | .publish => 1
  | .subscribe => 2

def matchByte : Match → Byte
  | .exact => 0
  | .maskA => 1
  | .maskB => 2

def lengthByte : CfgLength → Byte
  | .exact n => byteOf n
  | .any => 0xFF

def retryByte : RetryLimit → Byte
  | .limit n => byteOf n
  | .unlimited => 15

def lifeByte : Life → Byte
  | .disabled => 0
  | .enabled => 1
  | .draining => 2

def txStateByte : TxState → Byte
  | .idle => 0
  | .pending => 1
  | .onBus => 2

/-- R146: the sum of SEND 0x01, ANSWER 0x02 and QUERY 0x04. -/
def reasonsByte (r : Reasons) : Byte :=
  byteOf ((if r.send then 1 else 0) + (if r.answer then 2 else 0) + (if r.query then 4 else 0))

def dataStateByte : DataState → Byte
  | .empty => 0
  | .fresh => 1
  | .seen => 2

def freshnessByte : Freshness → Byte
  | .current => 0
  | .stale => 1

def frameKindByte : FrameKind → Byte
  | .publish => 0
  | .query => 1

def engineStateByte : EngineState → Byte
  | .offline => 0
  | .syncing => 1
  | .active => 2
  | .stopping => 3
  | .withdrawn => 4
  | .recovering => 5

def standingByte : Standing → Byte
  | .normal => 0
  | .caution => 1
  | .restrained => 2

def modeByte : Mode → Byte
  | .normal => 0
  | .listen => 1
  | .loopback => 2

def rateByte : Rate → Byte
  | .k25 => 0
  | .k50 => 1
  | .k100 => 2
  | .k200 => 3
  | .k400 => 4
  | .k800 => 5

/-- R146: the percentage. -/
def samplePointByte : SamplePoint → Byte
  | .p60 => 60
  | .p65 => 65
  | .p70 => 70
  | .p75 => 75
  | .p80 => 80
  | .p85 => 85

def faultKindByte : Option FaultKind → Byte
  | none => 0
  | some .coding => 1
  | some .form => 2
  | some .check => 3
  | some .noAck => 4
  | some .bitPassive => 5
  | some .bitActive => 6

def directionByte : Direction → Byte
  | .transmit => 0
  | .receive => 1

/-- R146: 0 when stopped, otherwise the remaining ms. A due timer still holds its last millisecond (log 3). -/
def timerMs : Timer → Nat
  | .stopped => 0
  | .running ms => ms
  | .due => 1

/-! ### Bytes as values (R146) -/

def tagOf (a b c : Byte) : Tag := a ++ b ++ c

def halfOf (a b : Byte) : Nat := a.toNat * 256 + b.toNat

def slotOf (b : Byte) : Option SlotNo := if h : b.toNat < 24 then some ⟨b.toNat, h⟩ else none

def flagOf (b : Byte) : Option Bool := if b = 0 then some false else if b = 1 then some true else none

def roleOf (b : Byte) : Option Role :=
  if b = 0 then some .none else if b = 1 then some .publish else if b = 2 then some .subscribe else none

def matchOf (b : Byte) : Option Match :=
  if b = 0 then some .exact else if b = 1 then some .maskA else if b = 2 then some .maskB else none

/-- R3: 0 to 16, or ANY, which is out of range for PUBLISH. -/
def lengthOf (role : Role) (b : Byte) : Option CfgLength :=
  if b = 0xFF then (if role = .publish then none else some .any)
  else if b.toNat ≤ Config.maxPayload then some (.exact b.toNat) else none

def intervalOf (a b : Byte) : Option Nat := if halfOf a b ≤ 60000 then some (halfOf a b) else none

def retryOf (b : Byte) : Option RetryLimit :=
  if b = 15 then some .unlimited else if b.toNat ≤ 14 then some (.limit b.toNat) else none

def modeOf (b : Byte) : Option Mode :=
  if b = 0 then some .normal else if b = 1 then some .listen else if b = 2 then some .loopback else none

def rateOf (b : Byte) : Option Rate :=
  if b = 0 then some .k25 else if b = 1 then some .k50 else if b = 2 then some .k100
  else if b = 3 then some .k200 else if b = 4 then some .k400 else if b = 5 then some .k800 else none

def samplePointOf (b : Byte) : Option SamplePoint :=
  if b = 60 then some .p60 else if b = 65 then some .p65 else if b = 70 then some .p70
  else if b = 75 then some .p75 else if b = 80 then some .p80 else if b = 85 then some .p85 else none

/-- R139, R146: a window of 0 to 8, or UNCHANGED (the inner `none`). -/
def windowOf (b : Byte) : Option (Option Nat) :=
  if b = 0xFF then some none else if b.toNat ≤ Config.maxWindow then some (some b.toNat) else none

/-- R137, R146: a slot number, or NONE (the inner `none`). -/
def slotOrNoneOf (b : Byte) : Option (Option SlotNo) :=
  if b = 0xFF then some none else (slotOf b).map some

/-! ### Results and replies (R146) -/

/-- R146: the results after which no field follows. -/
inductive Refused where
  | unknownKind
  | badLength
  | wrongState
  | slotEnabled
  | slotDisabled
  | slotDraining
  | wrongRole
  | notConfigured
  | tagConflict
  | lengthMismatch
  | empty
deriving DecidableEq, Repr

/-- R146: a reply's result with the fields that follow it. -/
inductive Reply where
  | ok (fields : List Byte)
  | deferred (fields : List Byte)
  | nothingToDo (fields : List Byte)
  | badValue (index : Nat)
  | refused (r : Refused)
deriving DecidableEq, Repr

/-- R146: the code of a refusal. -/
def refusedCode : Refused → Byte
  | .unknownKind => 0x10
  | .badLength => 0x11
  | .wrongState => 0x20
  | .slotEnabled => 0x21
  | .slotDisabled => 0x22
  | .slotDraining => 0x23
  | .wrongRole => 0x24
  | .notConfigured => 0x25
  | .tagConflict => 0x26
  | .lengthMismatch => 0x27
  | .empty => 0x28

/-- R146: the result code and what follows it. -/
def replyBytes : Reply → List Byte
  | .ok fields => 0x00 :: fields
  | .deferred fields => 0x01 :: fields
  | .nothingToDo fields => 0x02 :: fields
  | .badValue index => [0x12, byteOf index]
  | .refused r => [refusedCode r]

/-! ### The bodies of the requests (R147): length first, then the fields in body order (R154) -/

/-- A field of the body: out of range, it refuses the request with BAD_VALUE and its index. -/
def field {α : Type} (index : Nat) : Option α → Except Reply α
  | some a => .ok a
  | none => .error (.badValue index)

/-- A body of a length the kind does not accept. -/
def badLength {α : Type} : Except Reply α := .error (.refused .badLength)

/-- The body of a request that carries no fields. -/
def parseNone : List Byte → Except Reply Unit
  | [] => .ok ()
  | _ => badLength

/-- A body that is one slot number. -/
def parseSlot : List Byte → Except Reply SlotNo
  | [b] => field 0 (slotOf b)
  | _ => badLength

/-- A body that is one flag. -/
def parseFlag : List Byte → Except Reply Bool
  | [b] => field 0 (flagOf b)
  | _ => badLength

/-- R121: SET_TIMING. -/
def parseTiming : List Byte → Except Reply (Rate × SamplePoint)
  | [r, p] => do
    let rate ← field 0 (rateOf r)
    let point ← field 1 (samplePointOf p)
    return (rate, point)
  | _ => badLength

/-- R164: SET_MODE. -/
def parseMode : List Byte → Except Reply Mode
  | [b] => field 0 (modeOf b)
  | _ => badLength

/-- R5: SET_MASKS. -/
def parseMasks : List Byte → Except Reply (Tag × Tag)
  | [a2, a1, a0, b2, b1, b0] => .ok (tagOf a2 a1 a0, tagOf b2 b1 b0)
  | _ => badLength

/-- R3: CONFIG_SLOT. -/
def parseConfig : List Byte → Except Reply (SlotNo × SlotConfig)
  | [n, r, t2, t1, t0, m, l, i1, i0, k, a, y] => do
    let slot ← field 0 (slotOf n)
    let role ← field 1 (roleOf r)
    let mtch ← field 3 (matchOf m)
    let length ← field 4 (lengthOf role l)
    let interval ← field 5 (intervalOf i1 i0)
    let retryLimit ← field 6 (retryOf k)
    let answer ← field 7 (flagOf a)
    let notify ← field 8 (flagOf y)
    return (slot, { role := role, tag := tagOf t2 t1 t0, mtch := mtch, length := length,
                    interval := interval, retryLimit := retryLimit, answer := answer,
                    notify := notify })
  | _ => badLength

/-- R18, R147: WRITE_SLOT; the body holds exactly as many payload bytes as its length says. -/
def parseWrite : List Byte → Except Reply (SlotNo × Bool × List Byte)
  | n :: f :: l :: payload =>
    if payload.length = l.toNat then do
      let slot ← field 0 (slotOf n)
      let send ← field 1 (flagOf f)
      let data ← field 2 (if l.toNat ≤ Config.maxPayload then some payload else none)
      return (slot, send, data)
    else badLength
  | _ => badLength

/-- R19: READ_SLOT. -/
def parseRead : List Byte → Except Reply (SlotNo × Bool)
  | [n, c] => do
    let slot ← field 0 (slotOf n)
    let consume ← field 1 (flagOf c)
    return (slot, consume)
  | _ => badLength

/-- R82: what SET_CATCH carries. -/
structure CatchSetting where
  enable : Bool
  mask : Tag
  pattern : Tag
  flush : Bool
deriving DecidableEq, Repr

/-- R82: SET_CATCH. -/
def parseCatch : List Byte → Except Reply CatchSetting
  | [e, m2, m1, m0, p2, p1, p0, f] => do
    let enable ← field 0 (flagOf e)
    let flush ← field 3 (flagOf f)
    return { enable := enable, mask := tagOf m2 m1 m0, pattern := tagOf p2 p1 p0, flush := flush }
  | _ => badLength

/-- R137: what NOTICE_CONTROL carries. -/
structure NoticeSetting where
  gate : Bool
  stateEnable : Bool
  tagClashEnable : Bool
  busFaultEnable : Bool
  catchEnable : Bool
  slot : Option SlotNo
  notify : Bool
deriving DecidableEq, Repr

/-- R137: NOTICE_CONTROL. -/
def parseNoticeControl : List Byte → Except Reply NoticeSetting
  | [g, st, tc, bf, c, n, y] => do
    let gate ← field 0 (flagOf g)
    let stateEnable ← field 1 (flagOf st)
    let tagClashEnable ← field 2 (flagOf tc)
    let busFaultEnable ← field 3 (flagOf bf)
    let catchEnable ← field 4 (flagOf c)
    let slot ← field 5 (slotOrNoneOf n)
    let notify ← field 6 (flagOf y)
    return { gate := gate, stateEnable := stateEnable, tagClashEnable := tagClashEnable,
             busFaultEnable := busFaultEnable, catchEnable := catchEnable, slot := slot,
             notify := notify }
  | _ => badLength

/-- R139: ACK_NOTICES, a window and 1 to 8 notice numbers. -/
def parseAck : List Byte → Except Reply (Option Nat × List Byte)
  | w :: numbers =>
    if 1 ≤ numbers.length ∧ numbers.length ≤ 8 then do
      let window ← field 0 (windowOf w)
      return (window, numbers)
    else badLength
  | [] => badLength

/-! ### The codes of the requests (R147) -/

/-- R147: the 22 request codes run from 0x01 to 0x16. -/
def isRequestCode (kind : Byte) : Bool := 1 ≤ kind.toNat && kind.toNat ≤ 0x16

/-- R146, R147: the fields of a slot record in READ_SLOT's reply. -/
def slotRecordBytes (n : SlotNo) (x : Slot) : List Byte :=
  [slotByte n, roleByte x.cfg.role] ++ tagBytes x.cfg.tag
    ++ [matchByte x.cfg.mtch, lengthByte x.cfg.length] ++ halfBytes x.cfg.interval
    ++ [retryByte x.cfg.retryLimit, flagByte x.cfg.answer, flagByte x.cfg.notify,
        lifeByte x.life, txStateByte x.tx, reasonsByte x.reasons, flagByte x.again,
        flagByte x.abort, byteOf x.retries, x.seq]
    ++ stampBytes x.stamp
    ++ [dataStateByte x.dataState, freshnessByte x.freshness, byteOf x.overrun,
        byteOf x.lengthRejects, byteOf x.skipped]
    ++ halfBytes (timerMs x.timer) ++ [byteOf x.payload.length] ++ x.payload

/-- R122, R147: the fields of ENGINE_STATUS's reply. -/
def engineBytes (e : Engine) : List Byte :=
  [engineStateByte e.state, standingByte e.standing, byteOf e.txCount, byteOf e.rxCount,
   flagByte e.recoveryOwed, byteOf e.progress, modeByte e.mode, rateByte e.rate,
   samplePointByte e.samplePoint, flagByte e.busStuck, faultKindByte e.lastFault.kind,
   directionByte e.lastFault.direction, flagByte e.lastFault.tag.isSome]
    ++ tagBytes (e.lastFault.tag.getD 0) ++ stampBytes e.lastFault.stamp

/-- R147, R169, R161: the seventeen counters of DIAG_COUNTS's reply. -/
def counterBytes (d : DiagCounters) (c : LinkCounters) : List Byte :=
  ([d.framesSent, d.framesValid, d.arbitrationLosses, d.coding, d.form, d.check, d.noAck,
    d.bitPassive, d.bitActive, d.unclaimed, d.tagClashes, c.lengthFaults, c.gapTimeouts,
    c.checkFailures, c.rejectsDropped, c.dupResent, c.dupDiscarded].map halfBytes).flatten

/-- R80, R147: a catch record, the fill and the overflow count in TAKE_CATCH's reply. -/
def catchBytes (r : CatchRecord) (fill overflow : Nat) : List Byte :=
  tagBytes r.frame.tag
    ++ [frameKindByte (frameKind r.frame), byteOf (framePayload r.frame).length]
    ++ stampBytes r.stamp ++ [byteOf fill] ++ halfBytes overflow ++ framePayload r.frame

/-! ### Notices as bytes (R148) -/

/-- R148: the codes of a pair's source and kind. -/
def pairBytes : Pair → List Byte
  | .state => [0x20, 1]
  | .tagClash => [0x20, 2]
  | .busFault => [0x20, 3]
  | .overflow => [0x21, 4]
  | .arrival => [0x21, 5]
  | .slot n k => [slotByte n, byteOf (6 + k.rank)]

def failCauseByte : FailCause → Byte
  | .retries => 0
  | .aborted => 1

def drainOutcomeByte : DrainOutcome → Byte
  | .sent => 0
  | .lost => 1
  | .faulted => 2
  | .exhausted => 3

/-- R148: the detail of each kind. -/
def detailBytes : Detail → List Byte
  | .state st standing owed stuck =>
    [engineStateByte st, standingByte standing, flagByte owed, flagByte stuck]
  | .tagClash tag slot => tagBytes tag ++ [slotByte slot]
  | .busFault kind direction => [faultKindByte (some kind), directionByte direction]
  | .overflow count tag kind => halfBytes count ++ tagBytes tag ++ [frameKindByte kind]
  | .arrival fill tag kind => [byteOf fill] ++ tagBytes tag ++ [frameKindByte kind]
  | .sendFailed cause kind reasons retries =>
    [failCauseByte cause, frameKindByte kind, reasonsByte reasons, byteOf retries]
  | .stale stamp => stampBytes stamp
  | .drained outcome => [drainOutcomeByte outcome]
  | .received tag length seq => tagBytes tag ++ [byteOf length, seq]
  | .sent kind reasons seq faulted =>
    [frameKindByte kind, reasonsByte reasons, seq, byteOf faulted]
  | .querySeen tag => tagBytes tag

/-- R148: the body of a NOTICE. -/
def noticeBody (p : Pair) (x : Numbered) : List Byte :=
  [x.number] ++ pairBytes p ++ [byteOf x.entry.count] ++ stampBytes x.entry.firstStamp
    ++ detailBytes x.entry.detail

/-- R148: the body of a REJECT. -/
def rejectBody (r : Reject) : List Byte :=
  [match r.reason with
   | .check => 0
   | .full => 1, flagByte r.seqUnknown, r.kind]

/-- R148: the body of a HELLO. -/
def helloBody (cause : HelloCause) (clock : Stamp) : List Byte :=
  [match cause with
   | .powerUp => 0
   | .restart => 1, byteOf Config.revision] ++ stampBytes clock

end Sys2Proof.Machine
end

