-- ==== Sys2Proof/Machine/Wire.lean ====
section
/-! DEFINITION. The Dorhal bus bit by bit (05_the_dorhal_bus.md): what the line carries for a frame, and
which command of the table the levels read on it come to. A level is a Bool: `false` is active (bit value 0),
`true` is passive (bit value 1), as R86 gives. -/

namespace Sys2Proof.Machine

/-! ### The check (R90) -/

/-- R90: one bit into the check register. -/
def crcBit (r : Crc) (b : Bool) : Crc :=
  if r.msb != b then (r <<< 1) ^^^ 0x1021 else r <<< 1

/-- R90: bits into the check register, in the order they are sent. -/
def crcBits (r : Crc) (bits : List Bool) : Crc := bits.foldl crcBit r

/-- R86: the bits of a field, most significant first. -/
def bitsOf {w : Nat} (v : BitVec w) : List Bool := (List.range w).map (fun i => v.getMsbD i)

/-! ### The frame (R89) -/

/-- R89: start, tag, kind, length and payload: what the check covers. -/
def coveredBits (f : BusFrame) : List Bool :=
  [false] ++ bitsOf f.tag ++
    match f.body with
    | .publish payload => [false] ++ bitsOf (BitVec.ofNat 5 payload.length) ++ (payload.map bitsOf).flatten
    | .query => [true]

/-- R90: the check field of a frame. -/
def frameCheck (f : BusFrame) : Crc := crcBits 0xFFFF (coveredBits f)

/-- R89, R91: the bits of the fill span before fill bits. -/
def spanBits (f : BusFrame) : List Bool := coveredBits f ++ bitsOf (frameCheck f)

/-- R91: after six equal bits one bit of the opposite level; the fill bit is the first of the next run.
`last` and `run` are the level and the length of the run so far. -/
def fillFrom (last : Bool) (run : Nat) : List Bool → List Bool
  | [] => if run = 6 then [(!last)] else []
  | b :: rest =>
    if run = 6 then (!last) :: b :: fillFrom b (if b = !last then 2 else 1) rest
    else b :: fillFrom b (if b = last then run + 1 else 1) rest

/-- R91: the fill span as it is sent. -/
def fill (bits : List Bool) : List Bool := fillFrom true 0 bits

/-- R89: the ack slot as the line carries it, the ack delimiter and the end marker. -/
def trailer (acked : Bool) : List Bool := (!acked) :: List.replicate 9 true

/-- R89: the levels on the line from the start bit to the last end-marker bit, `acked` when a receiver
drives the ack slot active. -/
def lineBits (acked : Bool) (f : BusFrame) : List Bool := fill (spanBits f) ++ trailer acked

/-- R89: the passive bits of the gap. -/
def gapBits : List Bool := List.replicate Config.gapLength true

/-- R97: a fault burst, 8 bits at the level of the standing when the fault is detected. -/
def burstBits (standing : Standing) : List Bool :=
  List.replicate Config.burstLength (standing = .restrained)

/-- R97: whether a node of a standing signals with an active burst. -/
def burstActive (standing : Standing) : Bool := standing ≠ .restrained

/-! ### The receiver (R91, R93, R94, R95, R99) -/

/-- What reading one bit brings a node to. -/
inductive Reading (σ : Type) where
  | more (s : σ)
  | frameEnd (frame : BusFrame)
  | fault (kind : FaultKind) (tag : Option Tag)
deriving Repr

/-- A receiver in a frame: the frame bits read so far without fill, the run they end in, and how many bits
have been read from the ack slot on once the span is over. -/
structure Receiver where
  bits : List Bool
  last : Bool
  run : Nat
  trailerRead : Option Nat
deriving DecidableEq, Repr

/-- A receiver before the start bit. -/
def Receiver.start : Receiver := { bits := [], last := true, run := 0, trailerRead := none }

/-- The value of bits, the first the most significant. -/
def valueOf (bits : List Bool) : Nat := bits.foldl (fun n b => 2 * n + b.toNat) 0

/-- R89: the bits of the length field, once they and the PUBLISH kind bit have been read. -/
def lengthRead (bits : List Bool) : Nat := valueOf ((bits.drop 26).take 5)

/-- R89: the frame bits of the span, when the bits read so far say how many: 42 of a QUERY frame, 47 and 8
for each payload byte of a PUBLISH frame. -/
def spanLength (bits : List Bool) : Option Nat :=
  if bits.length < 26 then none
  else if bits.getD 25 true then some 42
  else if bits.length < 31 then none
  else some (47 + 8 * lengthRead bits)

/-- R96: the tag, present once all 24 tag bits have been read. -/
def tagRead (bits : List Bool) : Option Tag :=
  if 25 ≤ bits.length then some (BitVec.ofNat 24 (valueOf ((bits.drop 1).take 24))) else none

/-- Bits as bytes, the first bit of each the most significant. -/
def bytesRead : Nat → List Bool → List Byte
  | 0, _ => []
  | n + 1, bits => BitVec.ofNat 8 (valueOf (bits.take 8)) :: bytesRead n (bits.drop 8)

/-- R89: the frame that whole span bits spell. -/
def frameRead (bits : List Bool) : BusFrame :=
  { tag := BitVec.ofNat 24 (valueOf ((bits.drop 1).take 24))
    body := if bits.getD 25 true then .query
            else .publish (bytesRead (lengthRead bits) (bits.drop 31)) }

/-- R90: the computed check equals the check read. -/
def checkGood (bits : List Bool) : Bool :=
  crcBits 0xFFFF (bits.take (bits.length - 16)) == BitVec.ofNat 16 (valueOf (bits.drop (bits.length - 16)))

/-- R94: the end of the span: the check is compared at the last check bit, or at the fill bit after it. -/
def Receiver.endSpan (r : Receiver) : Reading Receiver :=
  if checkGood r.bits then .more { r with trailerRead := some 0 } else .fault .check (tagRead r.bits)

/-- R91, R94: one bit of the fill span. Where a run of six ends on the last check bit, the check differs and the
next bit is of the same level, CODING is found at that bit and CHECK is not (DESIGN CHOICE, log 24: R94 gives no
precedence). -/
def Receiver.spanBit (r : Receiver) (b : Bool) : Reading Receiver :=
  if r.run = 6 then
    if b = r.last then .fault .coding (tagRead r.bits)
    else if spanLength r.bits = some r.bits.length then
      Receiver.endSpan { r with last := b, run := 1 }
    else .more { r with last := b, run := 1 }
  else
    let r' : Receiver :=
      { r with bits := r.bits ++ [b], last := b, run := if b = r.last then r.run + 1 else 1 }
    if r'.bits.length = 31 ∧ r'.bits.getD 25 true = false ∧ 16 < lengthRead r'.bits then
      .fault .form (tagRead r'.bits)
    else if spanLength r'.bits = some r'.bits.length ∧ r'.run ≠ 6 then r'.endSpan
    else .more r'

/-- R93, R94, R99: one bit from the ack slot on. `drives` is whether this receiver drives the ack slot of a
good frame, and so checks it. -/
def Receiver.trailerBit (drives : Bool) (r : Receiver) (n : Nat) (b : Bool) : Reading Receiver :=
  if n = 0 then
    if drives && b then .fault .bitActive (tagRead r.bits) else .more { r with trailerRead := some 1 }
  else if b = false then .fault .form (tagRead r.bits)
  else if n = 9 then .frameEnd (frameRead r.bits)
  else .more { r with trailerRead := some (n + 1) }

/-- One bit read by a receiver. -/
def Receiver.read (drives : Bool) (r : Receiver) (b : Bool) : Reading Receiver :=
  match r.trailerRead with
  | none => r.spanBit b
  | some n => r.trailerBit drives n b

/-- R96, R99: a receiver reads the line until its frame ends or its first fault. -/
def receive (drives : Bool) (r : Receiver) : List Bool → Reading Receiver
  | [] => .more r
  | b :: rest =>
    match r.read drives b with
    | .more r' => receive drives r' rest
    | .frameEnd f => .frameEnd f
    | .fault k t => .fault k t

/-- R93, R96, R99, R165: the command that the levels from a start bit on come to for the part as receiver,
none while the frame goes on. In LISTEN the ack slot is not driven and not checked. -/
def receiverCommand (mode : Mode) (levels : List Bool) : Option Instr :=
  match receive (mode = .normal) Receiver.start levels with
  | .more _ => none
  | .frameEnd f => some (.frameEnd f)
  | .fault k t => some (.rxFault k t)

/-! ### The transmitter (R92, R94, R95, R99) -/

/-- R89, R95: what a bit of a frame is to its transmitter. -/
inductive BitClass where
  | start
  | arbitration
  | fillBit
  | data
  | ackSlot
  | endField
deriving DecidableEq, Repr

/-- R89: the class of the n-th frame bit of the span. -/
def classOf (n : Nat) : BitClass := if n = 0 then .start else if n ≤ 25 then .arbitration else .data

/-- One bit the transmitter sends: its class, its level, and whether all 24 tag bits precede it (R96). -/
structure SentBit where
  cls : BitClass
  level : Bool
  afterTag : Bool
deriving DecidableEq, Repr

/-- R91: the span as it is sent, with the class of each bit. `n` counts frame bits. -/
def sentFrom (n : Nat) (last : Bool) (run : Nat) : List Bool → List SentBit
  | [] => if run = 6 then [⟨.fillBit, (!last), 25 ≤ n⟩] else []
  | b :: rest =>
    if run = 6 then
      ⟨.fillBit, (!last), 25 ≤ n⟩ :: ⟨classOf n, b, 25 ≤ n⟩
        :: sentFrom (n + 1) b (if b = !last then 2 else 1) rest
    else ⟨classOf n, b, 25 ≤ n⟩ :: sentFrom (n + 1) b (if b = last then run + 1 else 1) rest

/-- R89: every bit the transmitter of a frame sends, to its last end-marker bit; the ack slot passive. -/
def sentBits (f : BusFrame) : List SentBit :=
  sentFrom 0 true 0 (spanBits f) ++ ⟨.ackSlot, true, true⟩ :: List.replicate 9 ⟨.endField, true, true⟩

/-- R57: what a transmitted frame comes to. -/
inductive Transmitted where
  | going
  | sent
  | lost
  | faulted (kind : FaultKind) (afterTag : Bool)
deriving DecidableEq, Repr

/-- R92 to R95: one bit driven and read; `none` when the frame goes on. -/
def bitOutcome (x : SentBit) (read : Bool) : Option Transmitted :=
  match x.cls with
  | .ackSlot => if read then some (.faulted .noAck x.afterTag) else none
  | .endField => if read then none else some (.faulted .form x.afterTag)
  | .arbitration =>
    if read = x.level then none
    else if x.level then some .lost else some (.faulted .bitActive x.afterTag)
  | _ =>
    if read = x.level then none
    else if x.level then some (.faulted .bitPassive x.afterTag) else some (.faulted .bitActive x.afterTag)

/-- R92, R95, R99: the bits sent against the levels read. -/
def transmit : List SentBit → List Bool → Transmitted
  | [], _ => .sent
  | _ :: _, [] => .going
  | x :: xs, read :: rest =>
    match bitOutcome x read with
    | some t => t
    | none => transmit xs rest

/-- R57, R99: the command that the levels read while the part sends a frame come to. -/
def transmitterCommand (f : BusFrame) (levels : List Bool) : Option Instr :=
  match transmit (sentBits f) levels with
  | .going => none
  | .sent => some .txSent
  | .lost => some .txLost
  | .faulted kind afterTag => some (.txFaulted kind afterTag)

/-! ### Quiet intervals and bit times (R87, R101) -/

/-- R101: the quiet intervals that levels complete, from a count of passive bits so far, and the count
they leave. -/
def quietIntervals (count : Nat) : List Bool → Nat × Nat
  | [] => (0, count)
  | false :: rest => quietIntervals 0 rest
  | true :: rest =>
    if count + 1 = 12 then
      let (k, c) := quietIntervals 0 rest
      (k + 1, c)
    else quietIntervals (count + 1) rest

/-- R87: the CLK_IN periods of one bit. -/
def clkPerBit : Rate → Nat
  | .k25 => 640
  | .k50 => 320
  | .k100 => 160
  | .k200 => 80
  | .k400 => 40
  | .k800 => 20

/-- R87: the percentage of a sample point. -/
def samplePercent : SamplePoint → Nat
  | .p60 => 60
  | .p65 => 65
  | .p70 => 70
  | .p75 => 75
  | .p80 => 80
  | .p85 => 85

/-- R87: the CLK_IN periods from the start of a bit to its sample point. -/
def sampleAt (r : Rate) (p : SamplePoint) : Nat := clkPerBit r * samplePercent p / 100

/-! ### The waits after a frame (R88, R98, R102, R106, R166)

The levels are those read from the bit after the frame's last end-marker bit on, or, for a frame in which the
part detected a fault, from the bit after the fault on. -/

/-- R88, R98, R102: where the line stands: in the fault delimiter, in the gap or in the restrained suspension
with so many passive bits left; idle; or a start bit has been read. -/
inductive Wait where
  | delimiter (left : Nat)
  | gap (left : Nat)
  | suspension (left : Nat)
  | idle
  | start
deriving DecidableEq, Repr

/-- R88, R102: what follows the gap, by whether a suspension is owed. -/
def Wait.afterGap (owed : Bool) : Wait := if owed then .suspension Config.suspensionLength else .idle

/-- R88, R98, R102: one bit read. An active bit starts the delimiter's count again; after the delimiter it is a
start bit, in the gap (R88) as in the suspension, and ends the suspension owed in both (DESIGN CHOICE for the gap,
log 26). -/
def Wait.bit (owed : Bool) (w : Wait) (level : Bool) : Wait :=
  match w with
  | .delimiter left =>
    if level then (if left ≤ 1 then .gap Config.gapLength else .delimiter (left - 1))
    else .delimiter Config.delimiterLength
  | .gap left => if level then (if left ≤ 1 then .afterGap owed else .gap (left - 1)) else .start
  | .suspension left => if level then (if left ≤ 1 then .idle else .suspension (left - 1)) else .start
  | .idle => if level then .idle else .start
  | .start => .start

/-- R98, R108, R166: the bits after the fault that come before the delimiter's count: the burst's; in LISTEN, where
no burst is sent, none. -/
def Engine.bitsBeforeDelimiter (e : Engine) : Nat := if e.mode = .listen then 0 else Config.burstLength

/-- R106, R166: the frame is in progress until the eighth bit after the fault, in LISTEN too. -/
def faultInProgress (levels : List Bool) : Bool := levels.length < Config.burstLength

/-- R88, R98, R102: where the line stands once the levels have been read; none while a frame is being received or
sent. -/
def Engine.waitAfter (e : Engine) (levels : List Bool) : Option Wait :=
  match e.phase with
  | .receiving => none
  | .sending => none
  | .quiet => some (levels.foldl (Wait.bit e.suspensionOwed) .idle)
  | .gap => some (levels.foldl (Wait.bit e.suspensionOwed) (.gap Config.gapLength))
  | .burst _ _ =>
    some ((levels.drop e.bitsBeforeDelimiter).foldl (Wait.bit e.suspensionOwed) (.delimiter Config.delimiterLength))
  | .delimiter =>
    some ((levels.drop e.bitsBeforeDelimiter).foldl (Wait.bit e.suspensionOwed) (.delimiter Config.delimiterLength))

/-- R102: the bits of a suspension owed. -/
def Engine.suspensionBits (e : Engine) : Nat := if e.suspensionOwed then Config.suspensionLength else 0

/-- R88, R98, R102: the fewest bits after which an opportunity may stand. -/
def Engine.bitsOwed (e : Engine) : Nat :=
  match e.phase with
  | .quiet => 0
  | .receiving => 0
  | .sending => 0
  | .gap => Config.gapLength + e.suspensionBits
  | .burst _ _ => e.bitsBeforeDelimiter + Config.delimiterLength + Config.gapLength + e.suspensionBits
  | .delimiter => e.bitsBeforeDelimiter + Config.delimiterLength + Config.gapLength + e.suspensionBits

/-! ### BUS_TX (R86, R93, R97, R105)

The levels are those read since the frame's start bit while a frame is sent or received (a frame the part lost
in arbitration among them), and as above after it. -/

/-- R93: the levels of a frame so far have been found good, and the next bit is its ack slot. -/
def ackSlotNext (levels : List Bool) : Bool :=
  match receive true Receiver.start levels with
  | .more r => r.trailerRead == some 0
  | .frameEnd _ => false
  | .fault _ _ => false

/-- R89, R105: the level of the part's own frame at the bit after the levels read, until the frame's fate. -/
def sentLevel (f : BusFrame) (levels : List Bool) : Bool :=
  match transmit (sentBits f) levels with
  | .going => ((sentBits f).map SentBit.level).getD levels.length true
  | .sent => true
  | .lost => true
  | .faulted _ _ => true

/-- R105: the level of BUS_TX at the bit after the levels read (`true` is passive): passive in every state but
ACTIVE and STOPPING and in every mode but NORMAL; else the bits of the part's own frame until its fate, an active
ack slot for a frame found good, an active fault burst for its 8 bits, and passive at every other bit. -/
def State.busTx (s : State) (levels : List Bool) : Bool :=
  if s.engine.onLine && s.engine.mode = .normal then
    match s.engine.phase with
    | .quiet => true
    | .gap => true
    | .delimiter => true
    | .receiving => !ackSlotNext levels
    | .burst active _ => !(active && faultInProgress levels)
    | .sending => match s.txBuffer with
      | some rec => sentLevel rec.frame levels
      | none => true
  else true

end Sys2Proof.Machine
end

