-- ==== Sys2Proof/Machine/Link.lean ====
section
/-! DEFINITION. The host link's shared operations (08_the_host_link.md): the envelope, the framer, rejects,
the reply history, the taking of a request, the output order. -/

namespace Sys2Proof.Machine

/-! ### The envelope (R145) -/

/-- R145: one byte into the running check, most significant bit first. -/
def crcByte (r : Crc) (b : Byte) : Crc := crcBits r (bitsOf b)

/-- R145: the check over LEN, KIND, SEQ and BODY. -/
def hostCrc (bytes : List Byte) : Crc := bytes.foldl crcByte 0xFFFF

/-- R145: the two CHECK bytes, most significant first. -/
def crcBytes (c : Crc) : List Byte := [c.extractLsb' 8 8, c.extractLsb' 0 8]

/-- R145: SYNC. -/
def syncByte : Byte := 0x5A

/-- R145: LEN, KIND, SEQ and BODY. -/
def checkedBytes (kind seq : Byte) (body : List Byte) : List Byte :=
  byteOf (body.length + 2) :: kind :: seq :: body

/-- R145: a whole frame of the host link, either way. -/
def envelope (kind seq : Byte) (body : List Byte) : List Byte :=
  syncByte :: checkedBytes kind seq body ++ crcBytes (hostCrc (checkedBytes kind seq body))

/-- R145: the KIND of a REPLY. -/
def replyKind : Byte := 0x80
/-- R145: the KIND of a REJECT. -/
def rejectKind : Byte := 0x81
/-- R145: the KIND of a NOTICE. -/
def noticeKind : Byte := 0x82
/-- R145: the KIND of a HELLO. -/
def helloKind : Byte := 0x83

/-- R146: a REPLY frame: the request's SEQ, its KIND echoed, the result and what follows. -/
def replyFrame (r : Request) (rep : Reply) : List Byte :=
  envelope replyKind r.seq (r.kind :: replyBytes rep)

/-- R148: a REJECT frame. -/
def rejectFrame (r : Reject) : List Byte := envelope rejectKind r.seq (rejectBody r)

/-- R145, R148: a HELLO frame; its SEQ is 0. -/
def helloFrame (cause : HelloCause) (clock : Stamp) : List Byte :=
  envelope helloKind 0 (helloBody cause clock)

/-- R145, R148: a NOTICE frame; its SEQ is 0. -/
def noticeFrame (p : Pair) (x : Numbered) : List Byte := envelope noticeKind 0 (noticeBody p x)

/-- R157: a waiting item as the frame it goes out as. -/
def OutItem.frame : OutItem → List Byte
  | .reply _ frame => frame
  | .reject r => rejectFrame r

/-! ### Link counters (R161) -/

def LinkCounters.lengthFault (c : LinkCounters) : LinkCounters :=
  { c with lengthFaults := satAdd Config.halfMax c.lengthFaults 1 }
def LinkCounters.gapTimeout (c : LinkCounters) : LinkCounters :=
  { c with gapTimeouts := satAdd Config.halfMax c.gapTimeouts 1 }
def LinkCounters.checkFailure (c : LinkCounters) : LinkCounters :=
  { c with checkFailures := satAdd Config.halfMax c.checkFailures 1 }
def LinkCounters.rejectDropped (c : LinkCounters) : LinkCounters :=
  { c with rejectsDropped := satAdd Config.halfMax c.rejectsDropped 1 }
def LinkCounters.resent (c : LinkCounters) : LinkCounters :=
  { c with dupResent := satAdd Config.halfMax c.dupResent 1 }
def LinkCounters.discarded (c : LinkCounters) : LinkCounters :=
  { c with dupDiscarded := satAdd Config.halfMax c.dupDiscarded 1 }

/-! ### Rejects and received frames (R151, R152, R153) -/

/-- R153: whether a waiting item is in the pending-rejects store. -/
def OutItem.isReject : OutItem → Bool
  | .reply _ _ => false
  | .reject _ => true

/-- R153: a produced REJECT joins the store, or is dropped and counted when 4 wait. -/
def Link.produceReject (l : Link) (r : Reject) : Link :=
  if Config.rejectDepth ≤ (l.waiting.filter OutItem.isReject).length then
    { l with counters := l.counters.rejectDropped }
  else { l with waiting := l.waiting ++ [.reject r] }

/-- R152: whether a copy of a stored reply waits for the line, fresh or resent (log 14). -/
def Link.copyWaiting (l : Link) (frame : List Byte) : Bool :=
  l.waiting.any fun item => match item with
    | .reply _ f => f == frame
    | .reject _ => false

/-- R156: the history entry of a SEQ and KIND. -/
def Link.stored (l : Link) (kind seq : Byte) : Option HistEntry :=
  l.history.find? fun e => e.seq == seq && e.kind == kind

/-- R152: whether a request of a SEQ and KIND is in the inbox. -/
def Link.inInbox (l : Link) (kind seq : Byte) : Bool :=
  l.inbox.any fun q => q.seq == seq && q.kind == kind

/-- R152: a frame whose check is good. -/
def Link.takeFrame (l : Link) (r : Request) : Link :=
  match l.stored r.kind r.seq with
  | some e =>
    if l.copyWaiting e.frame then { l with counters := l.counters.discarded }
    else { l with waiting := l.waiting ++ [.reply false e.frame], counters := l.counters.resent }
  | none =>
    if l.inInbox r.kind r.seq then { l with counters := l.counters.discarded }
    else if Config.inboxDepth ≤ l.inbox.length then
      l.produceReject { reason := .full, seq := r.seq, seqUnknown := false, kind := r.kind }
    else { l with inbox := l.inbox ++ [r] }

/-- R151: a completed frame whose check is bad. -/
def Link.badCheck (l : Link) : Link :=
  { l with counters := l.counters.checkFailure }.produceReject
    { reason := .check, seq := 0, seqUnknown := true, kind := 0 }

/-! ### The framer (R149, R150) -/

/-- What one byte brings the framer to. -/
inductive FramerEvent where
  | none
  | lengthFault
  | frame (good : Bool) (r : Request)
deriving DecidableEq, Repr

/-- R149: inside a frame, from its SYNC on. -/
def Framer.inside (f : Framer) : Bool := !f.buf.isEmpty

/-- R149: the framer right after a SYNC. -/
def Framer.synced : Framer := { buf := [syncByte], crc := 0xFFFF, sinceLast := 0 }

/-- R149: the byte after SYNC, taken as LEN; a 0x5A that fails as LEN is a new SYNC. -/
def Framer.lenByte (b : Byte) : Framer × FramerEvent :=
  if 2 ≤ b.toNat ∧ b.toNat ≤ 62 then
    ({ buf := [syncByte, b], crc := crcByte 0xFFFF b, sinceLast := 0 }, .none)
  else if b = syncByte then (.synced, .lengthFault)
  else (.hunting, .lengthFault)

/-- R145, R151: the request that a whole frame's bytes hold. -/
def requestOf (buf : List Byte) : Request :=
  { kind := buf.getD 2 0, seq := buf.getD 3 0, body := (buf.drop 4).take ((buf.getD 1 0).toNat - 2) }

/-- R149: a byte after LEN: KIND, SEQ and BODY run into the check, then the two CHECK bytes end the frame. -/
def Framer.bodyByte (f : Framer) (b : Byte) : Framer × FramerEvent :=
  let len := (f.buf.getD 1 0).toNat
  let buf := f.buf ++ [b]
  if buf.length < len + 3 then ({ buf := buf, crc := crcByte f.crc b, sinceLast := 0 }, .none)
  else if buf.length < len + 4 then ({ buf := buf, crc := f.crc, sinceLast := 0 }, .none)
  else (.hunting, .frame (crcBytes f.crc == buf.drop (len + 2)) (requestOf buf))

/-- R149: one byte of HOST_IN. -/
def Framer.byte (f : Framer) (b : Byte) : Framer × FramerEvent :=
  match f.buf with
  | [] => if b = syncByte then (.synced, .none) else (.hunting, .none)
  | [_] => Framer.lenByte b
  | _ => f.bodyByte b

/-- R149 to R153: the link's reaction to what the framer found. -/
def Link.react (l : Link) : FramerEvent → Link
  | .none => l
  | .lengthFault => { l with counters := l.counters.lengthFault }
  | .frame good r => if good then l.takeFrame r else l.badCheck

/-- R149: one byte of HOST_IN, with all it brings about. -/
def Link.byte (l : Link) (b : Byte) : Link :=
  let (f, ev) := l.framer.byte b
  { l with framer := f }.react ev

/-- R150: a gap of more than 10 ms discards the partial frame and is counted. -/
def Link.gap (l : Link) : Link :=
  { l with framer := .hunting, counters := l.counters.gapTimeout }

/-- R150, log 12: a gap that the clock shows to have passed is taken before anything else. -/
def Link.takeOverdueGap (l : Link) : Link :=
  if l.framer.inside && Config.gapSurely ≤ l.framer.sinceLast then l.gap else l

/-- R149 to R153: bytes of HOST_IN in their order. -/
def Link.bytes (l : Link) (bs : List Byte) : Link :=
  match bs with
  | [] => l
  | _ => bs.foldl Link.byte l.takeOverdueGap

/-- R150: the framer's time since its last byte, counted in clock advances up to 11 (log 12). -/
def Framer.tick (f : Framer) : Framer :=
  if f.inside then { f with sinceLast := min Config.gapSurely (f.sinceLast + 1) } else f

/-! ### Carrying out requests (R154, R156) -/

/-- R156: a reply joins the history: an equal SEQ leaves, then the oldest of 4, then the new one is newest. -/
def historyPut (h : List HistEntry) (e : HistEntry) : List HistEntry :=
  let kept := h.filter fun x => x.seq ≠ e.seq
  (if Config.historyDepth ≤ kept.length then kept.drop 1 else kept) ++ [e]

/-- R154: the request the processor takes when it takes one: the oldest, when no fresh reply of its own
waits and no RESTART has been taken. -/
def Link.next (l : Link) : Option Request :=
  match l.processor with
  | .free => l.inbox.head?
  | _ => none

/-- R154, R156: the request leaves the inbox and its reply is stored and queued, in that order. -/
def Link.answer (l : Link) (r : Request) (rep : Reply) (after : Processor) : Link :=
  { l with
    history := historyPut l.history { seq := r.seq, kind := r.kind, frame := replyFrame r rep }
    waiting := l.waiting ++ [.reply true (replyFrame r rep)]
    processor := after }

/-- R154: the request at the head of the inbox is taken out of it. -/
def State.dropRequest (s : State) : State := s.setLink { s.link with inbox := s.link.inbox.tail }

/-- R154: the reply of a request that has been carried out or refused is stored and queued. -/
def State.finish (s : State) (r : Request) (rep : Reply) (after : Processor) : State :=
  s.setLink (s.link.answer r rep after)

/-- R154: the processor takes the request at the head of the inbox, checks its body and carries it out. -/
def State.carryOut {α : Type} (s : State) (r : Request) (parse : List Byte → Except Reply α)
    (run : α → State → State × Reply) (after : Processor) : State :=
  match parse r.body with
  | .error rep => s.dropRequest.finish r rep .replyWaiting
  | .ok a =>
    let (t, rep) := run a s.dropRequest
    t.finish r rep after

/-- R154: the processor takes its next request, if that is of the kind given; otherwise no such request is
taken and nothing changes (log 2). -/
def State.request {α : Type} (s : State) (kind : Byte) (parse : List Byte → Except Reply α)
    (run : α → State → State × Reply) (after : Processor := .replyWaiting) : State :=
  match s.link.next with
  | some r => if r.kind = kind then s.carryOut r parse run after else s
  | none => s

end Sys2Proof.Machine
end

