-- ==== Sys2Proof/Machine/CatchQueue.lean ====
section
/-! DEFINITION. The catch queue (04_the_catch_queue.md): the filter, arrivals, TAKE_CATCH and SET_CATCH. -/

namespace Sys2Proof.Machine

/-- R77: whether a frame's tag passes the catch filter. -/
def CatchQueue.passes (c : CatchQueue) (tag : Tag) : Bool := c.enable && tagMatches c.mask tag c.pattern

/-- R78: a frame is appended as the newest record and ARRIVAL is raised. -/
def State.catchAppend (s : State) (f : BusFrame) : State :=
  (s.setCatch { s.catchQ with queue := s.catchQ.queue ++ [{ frame := f, stamp := s.clock }] }).raise
    .arrival (.arrival (s.catchQ.queue.length + 1) f.tag (frameKind f))

/-- R79: a frame is dropped, the overflow count goes up and OVERFLOW is raised. -/
def State.catchDrop (s : State) (f : BusFrame) : State :=
  (s.setCatch { s.catchQ with overflow := satAdd Config.halfMax s.catchQ.overflow 1 }).raise
    .overflow (.overflow (satAdd Config.halfMax s.catchQ.overflow 1) f.tag (frameKind f))

/-- R78, R79: a frame handed to the catch queue. -/
def State.catchFrame (s : State) (f : BusFrame) : State :=
  if s.catchQ.queue.length < Config.catchDepth then s.catchAppend f else s.catchDrop f

/-- R80, R81: the oldest record is reported, and removed unless the peek flag is set. -/
def doTakeCatch (peek : Bool) (s : State) : State × Reply :=
  match s.catchQ.queue with
  | [] => (s, .refused .empty)
  | r :: rest =>
    if peek then (s, .ok (catchBytes r (rest.length + 1) s.catchQ.overflow))
    else (s.setCatch { s.catchQ with queue := rest }, .ok (catchBytes r rest.length s.catchQ.overflow))

/-- TAKE_CATCH (R80, R81). -/
def execTakeCatch (s : State) : Out := .next (s.request 0x13 parseFlag doTakeCatch)

/-- R82: the catch queue after SET_CATCH. -/
def CatchQueue.set (c : CatchQueue) (a : CatchSetting) : CatchQueue :=
  { enable := a.enable, mask := a.mask, pattern := a.pattern,
    queue := if a.flush then [] else c.queue, overflow := if a.flush then 0 else c.overflow }

/-- R82: the reply of SET_CATCH. -/
def catchFields (c : CatchQueue) : List Byte :=
  [flagByte c.enable] ++ tagBytes c.mask ++ tagBytes c.pattern ++ [byteOf c.queue.length]
    ++ halfBytes c.overflow

/-- R82. -/
def doSetCatch (a : CatchSetting) (s : State) : State × Reply :=
  (s.setCatch (s.catchQ.set a), .ok (catchFields (s.catchQ.set a)))

/-- SET_CATCH (R82). -/
def execSetCatch (s : State) : Out := .next (s.request 0x12 parseCatch doSetCatch)

end Sys2Proof.Machine
end

