-- ==== Sys2Proof/Machine/SlotTable.lean ====
section
/-! DEFINITION. The requests on the slot table and on a slot's reasons (01_the_slot_table.md R5, R15 to R19;
03_transmission.md R48 to R50). Each request's state checks and effect, then the command that takes it. -/

namespace Sys2Proof.Machine

/-! ### SET_MASKS (R5) -/

/-- R5: both masks are replaced. -/
def doSetMasks (m : Tag × Tag) (s : State) : State × Reply :=
  (s.setMasks m.1 m.2, .ok (tagBytes m.1 ++ tagBytes m.2))

/-- SET_MASKS (R5). -/
def execSetMasks (s : State) : Out := .next (s.request 0x09 parseMasks doSetMasks)

/-! ### CONFIG_SLOT (R15) -/

/-- R15: taken on a DISABLED slot only; the slot's configuration is written and its dynamic fields reset. -/
def doConfigSlot (a : SlotNo × SlotConfig) (s : State) : State × Reply :=
  match (s.slot a.1).life with
  | .enabled => (s, .refused .slotEnabled)
  | .draining => (s, .refused .slotDraining)
  | .disabled => (s.setSlot a.1 (Slot.configured a.2.stored), .ok [slotByte a.1])

/-- CONFIG_SLOT (R15). -/
def execConfigSlot (s : State) : Out := .next (s.request 0x0A parseConfig doConfigSlot)

/-! ### ENABLE_SLOT (R16) -/

/-- R16, R28: a slot of role PUBLISH that is ENABLED or DRAINING. -/
def Slot.publishing (x : Slot) : Bool :=
  x.cfg.role = .publish && (x.life = .enabled || x.life = .draining)

/-- R16: another ENABLED or DRAINING publish slot holds the slot's tag. -/
def State.tagConflict (s : State) (n : SlotNo) : Bool :=
  (s.slot n).cfg.role = .publish &&
    allSlots.any fun m => m ≠ n && (s.slot m).publishing && (s.slot m).cfg.tag = (s.slot n).cfg.tag

/-- R16, R17: the slot number and the slot's life, in the replies of ENABLE_SLOT and DISABLE_SLOT. -/
def lifeFields (n : SlotNo) (l : Life) : List Byte := [slotByte n, lifeByte l]

/-- R16: the checks in their order, then the slot becomes ENABLED and its timer starts. -/
def doEnableSlot (n : SlotNo) (s : State) : State × Reply :=
  if (s.slot n).cfg.role = .none then (s, .refused .notConfigured)
  else if s.tagConflict n then (s, .refused .tagConflict)
  else match (s.slot n).life with
    | .enabled => (s, .nothingToDo (lifeFields n .enabled))
    | .draining => (s, .refused .slotDraining)
    | .disabled => (s.setSlot n (s.slot n).enable, .ok (lifeFields n .enabled))

/-- ENABLE_SLOT (R16). -/
def execEnableSlot (s : State) : Out := .next (s.request 0x0B parseSlot doEnableSlot)

/-! ### DISABLE_SLOT (R17) -/

/-- R17: at once when the slot is not ON_BUS, else the slot drains and the reply is DEFERRED. -/
def doDisableSlot (n : SlotNo) (s : State) : State × Reply :=
  match (s.slot n).life with
  | .disabled => (s, .nothingToDo (lifeFields n .disabled))
  | .draining => (s, .nothingToDo (lifeFields n .draining))
  | .enabled =>
    if (s.slot n).tx = .onBus then
      (s.setSlot n (s.slot n).drain, .deferred (lifeFields n .draining))
    else (s.setSlot n (s.slot n).disable, .ok (lifeFields n .disabled))

/-- DISABLE_SLOT (R17). -/
def execDisableSlot (s : State) : Out := .next (s.request 0x0C parseSlot doDisableSlot)

/-! ### WRITE_SLOT (R18) -/

/-- R18, R48, R49: the slot number, the transmit state and the again mark after the request. R48 says of an ON_BUS
slot with its abort mark set that 'the reply shows both marks'; the layout of R147 has no byte for the abort mark, and
the model follows the layout (DESIGN CHOICE, log 23). -/
def againFields (n : SlotNo) (x : Slot) : List Byte := [slotByte n, txStateByte x.tx, flagByte x.again]

/-- R18: the payload is replaced whole, and with the send flag SEND is added as R47 gives. -/
def Slot.write (x : Slot) (send : Bool) (payload : List Byte) : Slot :=
  if send then { x with payload := payload }.want .send else { x with payload := payload }

/-- R18: the checks in their order, then the write. -/
def doWriteSlot (a : SlotNo × Bool × List Byte) (s : State) : State × Reply :=
  let x := s.slot a.1
  if x.cfg.role ≠ .publish then (s, .refused .wrongRole)
  else if x.cfg.length ≠ .exact a.2.2.length then (s, .refused .lengthMismatch)
  else if x.life = .draining then (s, .refused .slotDraining)
  else if a.2.1 ∧ x.life = .disabled then (s, .refused .slotDisabled)
  else (s.setSlot a.1 (x.write a.2.1 a.2.2), .ok (againFields a.1 (x.write a.2.1 a.2.2)))

/-- WRITE_SLOT (R18). -/
def execWriteSlot (s : State) : Out := .next (s.request 0x0D parseWrite doWriteSlot)

/-! ### READ_SLOT (R19) -/

/-- R19: the consuming read of a subscribe slot. -/
def Slot.consume (x : Slot) : Slot :=
  if x.cfg.role = .subscribe then
    { x with dataState := if x.dataState = .fresh then .seen else x.dataState, overrun := 0 }
  else x

/-- R19: the reply shows the record before the consume takes effect. -/
def doReadSlot (a : SlotNo × Bool) (s : State) : State × Reply :=
  (if a.2 then s.setSlot a.1 (s.slot a.1).consume else s, .ok (slotRecordBytes a.1 (s.slot a.1)))

/-- READ_SLOT (R19). -/
def execReadSlot (s : State) : Out := .next (s.request 0x0E parseRead doReadSlot)

/-! ### SEND_SLOT and QUERY_SLOT (R48, R49) -/

/-- R48, R49: the shape the two requests share: `role` is the role they ask of the slot and `reason` what
they add. A QUERY_SLOT taken after the store that answered the slot's query finds it IDLE and makes it PENDING again,
as R49's row for IDLE says; that R44's last line has the slot IDLE in either order is not followed (DESIGN CHOICE,
log 22). -/
def askReason (role : Role) (reason : Reason) (n : SlotNo) (s : State) : State × Reply :=
  let x := s.slot n
  match x.life with
  | .disabled => (s, .refused .slotDisabled)
  | .draining => (s, .refused .slotDraining)
  | .enabled =>
    if x.cfg.role ≠ role then (s, .refused .wrongRole)
    else
      let y := x.want reason
      let t := s.setSlot n y
      match x.tx with
      | .idle => (t, .ok (againFields n y))
      | .pending => (t, .nothingToDo (againFields n y))
      | .onBus => if x.again then (t, .nothingToDo (againFields n y)) else (t, .ok (againFields n y))

/-- R48. -/
def doSendSlot (n : SlotNo) (s : State) : State × Reply := askReason .publish .send n s

/-- SEND_SLOT (R48). -/
def execSendSlot (s : State) : Out := .next (s.request 0x0F parseSlot doSendSlot)

/-- R49. -/
def doQuerySlot (n : SlotNo) (s : State) : State × Reply := askReason .subscribe .query n s

/-- QUERY_SLOT (R49). -/
def execQuerySlot (s : State) : Out := .next (s.request 0x10 parseSlot doQuerySlot)

/-! ### ABORT_SLOT (R50) -/

/-- R50: the slot number, the transmit state and the abort mark after the request. -/
def abortFields (n : SlotNo) (x : Slot) : List Byte := [slotByte n, txStateByte x.tx, flagByte x.abort]

/-- R50: by the slot's life and transmit state. -/
def doAbortSlot (n : SlotNo) (s : State) : State × Reply :=
  let x := s.slot n
  match x.life, x.tx with
  | .enabled, .pending => (s.setSlot n x.giveUp, .ok (abortFields n x.giveUp))
  | .enabled, .onBus =>
    if x.abort then (s, .nothingToDo (abortFields n x))
    else (s.setSlot n { x with abort := true }, .deferred (abortFields n { x with abort := true }))
  | .enabled, .idle => (s, .nothingToDo (abortFields n x))
  | .disabled, _ => (s, .nothingToDo (abortFields n x))
  | .draining, _ => (s, .nothingToDo (abortFields n x))

/-- ABORT_SLOT (R50). -/
def execAbortSlot (s : State) : Out := .next (s.request 0x11 parseSlot doAbortSlot)

end Sys2Proof.Machine
end

