-- ==== Sys2Proof/Machine/Acceptance.lean ====
section
/-! DEFINITION. The acceptance unit (02_acceptance_and_reception.md): the fate of each valid frame, and
FRAME_END. -/

namespace Sys2Proof.Machine

/-! ### Who claims a frame -/

/-- R28: the slot a PUBLISH frame clashes with, exactly compared; a looped frame is not compared with the
slot that sent it. -/
def State.clashSlot (s : State) (tag : Tag) (sender : Option SlotNo) : Option SlotNo :=
  allSlots.find? fun n => sender ≠ some n && (s.slot n).publishing && (s.slot n).cfg.tag = tag

/-- R29: the first ENABLED subscribe slot whose tag matches, in slot-number order. -/
def State.storeSlot (s : State) (tag : Tag) : Option SlotNo :=
  allSlots.find? fun n =>
    (s.slot n).cfg.role = .subscribe && (s.slot n).life = .enabled && s.slotMatches (s.slot n) tag

/-- R34: the first ENABLED publish slot whose tag matches, in slot-number order. -/
def State.answerSlot (s : State) (tag : Tag) : Option SlotNo :=
  allSlots.find? fun n =>
    (s.slot n).cfg.role = .publish && (s.slot n).life = .enabled && s.slotMatches (s.slot n) tag

/-! ### What a claim does -/

/-- R30: whether a slot's configured length accepts a frame's. -/
def CfgLength.accepts (l : CfgLength) (n : Nat) : Bool :=
  match l with
  | .any => true
  | .exact k => k = n

/-- R30: the slot after a length reject. -/
def Slot.lengthReject (x : Slot) : Slot :=
  { x with lengthRejects := satAdd Config.byteMax x.lengthRejects 1 }

/-- R32: a store removes QUERY from the reasons of a slot that is not ON_BUS; a slot left without reasons
is IDLE, and retries used goes to 0. What a QUERY_SLOT taken after it does is R49's (log 22). -/
def Slot.answered (x : Slot) : Slot :=
  if x.reasons.query && x.tx ≠ .onBus then
    { x with reasons := x.reasons.dropQuery, retries := 0,
             tx := if x.reasons.dropQuery.isEmpty then .idle else x.tx }
  else x

/-- R31: the slot after a store. -/
def Slot.store (x : Slot) (clock : Stamp) (payload : List Byte) : Slot :=
  Slot.answered
    { x with payload := payload, seq := x.seq + 1, stamp := slotStamp clock,
             overrun := if x.dataState = .fresh then satAdd Config.byteMax x.overrun 1 else x.overrun,
             dataState := .fresh, freshness := .current, timer := .start x.cfg.interval }

/-- R31, R33: a store and its RECEIVED event. -/
def State.store (s : State) (n : SlotNo) (tag : Tag) (payload : List Byte) : State :=
  (s.setSlot n ((s.slot n).store s.clock payload)).raise (.slot n .received)
    (.received tag payload.length ((s.slot n).seq + 1))

/-- R38: the unclaimed counter goes up. -/
def State.countUnclaimed (s : State) : State :=
  s.setDiag { s.diag with unclaimed := satAdd Config.halfMax s.diag.unclaimed 1 }

/-- R37, R38: a frame that no slot claimed. -/
def State.unclaimed (s : State) (f : BusFrame) : State :=
  if s.catchQ.passes f.tag then s.catchFrame f else s.countUnclaimed

/-- R28: a tag clash with slot `n`. -/
def State.clash (s : State) (tag : Tag) (n : SlotNo) : State :=
  (s.setDiag { s.diag with tagClashes := satAdd Config.halfMax s.diag.tagClashes 1 }).raise
    .tagClash (.tagClash tag n)

/-- R30, R31: a PUBLISH frame claimed by subscribe slot `n`. -/
def State.claimPublish (s : State) (n : SlotNo) (tag : Tag) (payload : List Byte) : State :=
  if (s.slot n).cfg.length.accepts payload.length then s.store n tag payload
  else s.setSlot n (s.slot n).lengthReject

/-- R35, R36: a QUERY frame claimed by publish slot `n`. -/
def State.claimQuery (s : State) (n : SlotNo) (tag : Tag) : State :=
  if (s.slot n).cfg.answer then s.setSlot n ((s.slot n).want .answer)
  else s.raise (.slot n .querySeen) (.querySeen tag)

/-- R27: the one fate of a frame end, by the first test that applies. `sender` is the sending slot of a
looped frame. -/
def State.accept (s : State) (f : BusFrame) (sender : Option SlotNo) : State :=
  match f.body with
  | .publish payload =>
    match s.clashSlot f.tag sender with
    | some n => s.clash f.tag n
    | none =>
      match s.storeSlot f.tag with
      | some n => s.claimPublish n f.tag payload
      | none => s.unclaimed f
  | .query =>
    match s.answerSlot f.tag with
    | some n => s.claimQuery n f.tag
    | none => s.unclaimed f

/-! ### FRAME_END -/

/-- R169: frames received valid goes up. -/
def State.countValid (s : State) : State :=
  s.setDiag { s.diag with framesValid := satAdd Config.halfMax s.diag.framesValid 1 }

/-- R111, R106, R119: the engine after a valid received frame: in NORMAL mode the rx count goes down by 1,
the gap follows, a suspension owed has ended with the frame's start (R102), and STOPPING ends. -/
def Engine.frameEnded (e : Engine) : Engine :=
  let e1 : Engine :=
    { e with rxCount := if e.mode = .normal then e.rxCount - 1 else e.rxCount, phase := .gap,
             suspensionOwed := false }
  if e.state = .stopping then e1.leave .offline else e1

/-- R27, R39, R99: a frame ends valid for the part as a receiver. -/
def State.frameEnd (s : State) (f : BusFrame) : State :=
  if s.engine.receives then
    let t := s.countValid.accept f none
    t.engineEvent t.engine.frameEnded
  else s

/-- FRAME_END (R27). A frame that no bus frame can be is no command of the part; a frame end while the
engine does not receive goes past unseen (R104). -/
def execFrameEnd (f : BusFrame) (s : State) : Out :=
  if f.wf then .next (s.frameEnd f) else .fault .illFormedCommand

end Sys2Proof.Machine
end

