-- ==== Sys2Proof/Machine/Transmission.lean ====
section
/-! DEFINITION. The transmit selector and the engine's account of the part's own frames
(03_transmission.md R54 to R69; 06_the_bus_engine.md R109, R110, R113): SELECTION, TX_SENT, TX_LOST and
TX_FAULTED. -/

namespace Sys2Proof.Machine

/-! ### Selection (R54 to R56) -/

/-- R55: a candidate is ENABLED and PENDING. -/
def Slot.candidate (x : Slot) : Bool := x.life = .enabled && x.tx = .pending

/-- R55: the kind of the frame a slot sends. -/
def Slot.sends (x : Slot) : FrameKind := if x.cfg.role = .publish then .publish else .query

/-- R55: slot `x` ranks strictly above slot `y` by tag, then PUBLISH before QUERY. -/
def Slot.ranksAbove (x y : Slot) : Bool :=
  x.cfg.tag.toNat < y.cfg.tag.toNat
    || (x.cfg.tag = y.cfg.tag && x.sends = .publish && y.sends = .query)

/-- R55: the better of the best so far and the next slot in slot-number order; at equal rank the lower
number stays. -/
def State.better (s : State) (best : Option SlotNo) (n : SlotNo) : Option SlotNo :=
  if (s.slot n).candidate then
    match best with
    | none => some n
    | some m => if (s.slot n).ranksAbove (s.slot m) then some n else some m
  else best

/-- R55: the candidate the selector chooses. -/
def State.bestCandidate (s : State) : Option SlotNo := allSlots.foldl s.better none

/-- R56: the frame of a slot as it stands at selection. -/
def Slot.snapshot (x : Slot) : BusFrame :=
  { tag := x.cfg.tag
    body := if x.cfg.role = .publish then .publish x.payload else .query }

/-- R56, R106: slot `n` is selected: its frame is in the transmit buffer and in progress. -/
def State.select (s : State) (n : SlotNo) : State :=
  ((s.setSlot n { s.slot n with tx := .onBus }).setTxBuffer
      (some { slot := n, frame := (s.slot n).snapshot })).setEngine
    { s.engine with phase := .sending, suspensionOwed := false }

/-- R54: while no opportunity stands, or no slot is PENDING, nothing happens. -/
def State.selection (s : State) : State :=
  if s.opportunity then
    match s.bestCandidate with
    | some n => s.select n
    | none => s
  else s

/-- SELECTION (R56). -/
def execSelection (s : State) : Out := .next s.selection

/-! ### Outcomes on the slot (R58 to R69) -/

/-- R57, R61: the outcome of a frame, a Faulted one told by whether it exhausted the retries. -/
abbrev Outcome := DrainOutcome

/-- R61, R63: whether one more faulted attempt goes above the retry limit. -/
def Slot.exhausts (x : Slot) : Bool :=
  match x.cfg.retryLimit with
  | .limit n => n < x.retries + 1
  | .unlimited => false

/-- R59: a Sent outcome, before the end-of-frame handling. -/
def Slot.sentOutcome (x : Slot) (kind : FrameKind) (clock : Stamp) : Slot :=
  match kind with
  | .publish => { x with reasons := .empty, retries := 0, seq := x.seq + 1, stamp := slotStamp clock }
  | .query => { x with reasons := .empty, retries := 0 }

/-- R61, R62, R63: a Faulted outcome, before the end-of-frame handling. -/
def Slot.faultedOutcome (x : Slot) : Slot :=
  if x.exhausts then { x with reasons := .empty, retries := 0 }
  else { x with retries := satAdd Config.byteMax x.retries 1 }

/-- R58: the outcome is settled on the slot. -/
def Slot.outcome (x : Slot) (o : Outcome) (kind : FrameKind) (clock : Stamp) : Slot :=
  match o with
  | .sent => x.sentOutcome kind clock
  | .lost => x
  | .faulted => x.faultedOutcome
  | .exhausted => x.faultedOutcome

/-- R68: the reason an again mark stands for. -/
def Slot.againReason (x : Slot) : Reason := if x.cfg.role = .publish then .send else .query

/-- R65 to R69: the slot's life and marks are settled: DRAINING first, then abort, then again. -/
def Slot.endFrame (x : Slot) : Slot :=
  if x.life = .draining then x.disable
  else if x.abort then x.giveUp
  else if x.again then
    { x with again := false, reasons := x.reasons.add x.againReason, tx := .pending }
  else { x with tx := if x.reasons.isEmpty then .idle else .pending }

/-! ### The events of an outcome (R58) -/

/-- R59, R62: the event of the outcome itself. `before` is the slot before it, `after` the slot it left. -/
def State.raiseOutcome (s : State) (n : SlotNo) (o : Outcome) (kind : FrameKind) (before after : Slot) : State :=
  match o with
  | .sent =>
    s.raise (.slot n .sent)
      (.sent kind before.reasons (match kind with
        | .publish => after.seq
        | .query => 0) before.retries)
  | .exhausted =>
    s.raise (.slot n .sendFailed) (.sendFailed .retries kind before.reasons (before.retries + 1))
  | .lost => s
  | .faulted => s

/-- R64, R66, R67: SEND_FAILED with ABORTED for a frame given up unsent. `after` is the slot as the outcome
left it. -/
def State.raiseAborted (s : State) (n : SlotNo) (o : Outcome) (kind : FrameKind) (after : Slot) : State :=
  match o with
  | .lost => s.raise (.slot n .sendFailed) (.sendFailed .aborted kind after.reasons after.retries)
  | .faulted => s.raise (.slot n .sendFailed) (.sendFailed .aborted kind after.reasons after.retries)
  | .sent => s
  | .exhausted => s

/-- R66, R67: the events of the marks. -/
def State.raiseMarks (s : State) (n : SlotNo) (o : Outcome) (kind : FrameKind) (after : Slot) : State :=
  if after.life = .draining then
    (s.raiseAborted n o kind after).raise (.slot n .drained) (.drained o)
  else if after.abort then s.raiseAborted n o kind after
  else s

/-- R58: the selector takes an outcome whole: the slot is settled, the events are raised in their order, the
transmit buffer is emptied. -/
def State.settle (s : State) (rec : TxRecord) (o : Outcome) : State :=
  let n := rec.slot
  let kind := frameKind rec.frame
  let before := s.slot n
  let after := before.outcome o kind s.clock
  (((s.raiseOutcome n o kind before after).raiseMarks n o kind after).setSlot n after.endFrame).setTxBuffer none

/-! ### The engine's account (R109, R110, R113) -/

/-- R57, R109: the part's frame is with the engine. -/
def Engine.transmits (e : Engine) : Bool := e.onLine && e.phase = .sending

/-- R109, R110, R119: the engine after a Sent fate. -/
def Engine.sentFate (e : Engine) : Engine :=
  let e1 : Engine := { e with txCount := if e.mode = .normal then e.txCount - 1 else e.txCount, phase := .gap }
  if e.state = .stopping then e1.leave .offline
  else { e1 with suspensionOwed := e1.standing = .restrained }

/-- R169: frames sent goes up. -/
def State.countSent (s : State) : State :=
  s.setDiag { s.diag with framesSent := satAdd Config.halfMax s.diag.framesSent 1 }

/-- R109: the account of a Sent fate. -/
def State.sentAccount (s : State) : State := s.countSent.engineEvent s.engine.sentFate

/-- R168: in LOOPBACK the part's own frame comes back as a received frame, its rx count unchanged. -/
def State.loopBack (s : State) (mode : Mode) (rec : TxRecord) : State :=
  if mode = .loopback then s.countValid.accept rec.frame (some rec.slot) else s

/-- R59, R109, R168: the part's frame is Sent. -/
def State.txSent (s : State) : State :=
  match s.txBuffer with
  | some rec =>
    if s.engine.transmits then ((s.settle rec .sent).sentAccount).loopBack s.engine.mode rec else s
  | none => s

/-- TX_SENT (R59). -/
def execTxSent (s : State) : Out := .next s.txSent

/-- R60, R169: arbitration losses goes up. -/
def State.countLost (s : State) : State :=
  s.setDiag { s.diag with arbitrationLosses := satAdd Config.halfMax s.diag.arbitrationLosses 1 }

/-- R60, R92, R109: the part's frame is Lost, and the engine goes on as a receiver of the winner. -/
def State.txLost (s : State) : State :=
  match s.txBuffer with
  | some rec =>
    if s.engine.transmits && s.engine.mode = .normal then
      let t := (s.settle rec .lost).countLost
      t.setEngine { t.engine with phase := .receiving }
    else s
  | none => s

/-- TX_LOST (R60). -/
def execTxLost (s : State) : Out := .next s.txLost

/-- R110: what a Faulted fate adds to the tx count: 6, or 0 for a NO_ACK met in RESTRAINED standing. -/
def txFaultWeight (kind : FaultKind) (standing : Standing) : Nat :=
  if kind = .noAck ∧ standing = .restrained then 0 else 6

/-- R109, R110: the engine's counts and record after a Faulted fate, before withdrawal is judged. -/
def Engine.faultCounted (e : Engine) (kind : FaultKind) (tag : Option Tag) (clock : Stamp) : Engine :=
  { e with lastFault := { kind := some kind, direction := .transmit, tag := tag, stamp := clock },
           txCount := satAdd Config.byteMax e.txCount (txFaultWeight kind e.standing),
           phase := .burst (burstActive e.standing) false }

/-- R113: withdrawal is judged: at 224 or more the mark is set and the engine leaves the bus; else the part's
burst goes on, and in RESTRAINED standing a suspension is owed (R102). -/
def Engine.judge (e : Engine) : Engine :=
  if Config.withdrawAt ≤ e.txCount then
    { e.leave (if e.state = .stopping then .offline else .withdrawn) with recoveryOwed := true }
  else { e with suspensionOwed := e.standing = .restrained }

/-- R109, R113, R124: the account of a Faulted fate: record, count, counter, BUS_FAULT, withdrawal, STATE. -/
def State.faultAccount (s : State) (kind : FaultKind) (tag : Option Tag) : State :=
  let counted := s.setDiag (s.diag.countFault kind)
  (counted.raise .busFault (.busFault kind .transmit)).engineEvent
    (s.engine.faultCounted kind tag s.clock).judge

/-- R61: whether a Faulted outcome of slot `x` exhausts its retries. -/
def Slot.faultOutcomeKind (x : Slot) : Outcome := if x.exhausts then .exhausted else .faulted

/-- R61, R109: the part's frame is Faulted. In LOOPBACK no fault occurs (R168). -/
def State.txFaulted (s : State) (kind : FaultKind) (afterTag : Bool) : State :=
  match s.txBuffer with
  | some rec =>
    if s.engine.transmits && s.engine.mode = .normal then
      (s.settle rec (s.slot rec.slot).faultOutcomeKind).faultAccount kind
        (if afterTag then some rec.frame.tag else none)
    else s
  | none => s

/-- TX_FAULTED (R61). -/
def execTxFaulted (kind : FaultKind) (afterTag : Bool) (s : State) : Out :=
  if txFaultWf kind afterTag then .next (s.txFaulted kind afterTag) else .fault .illFormedCommand

end Sys2Proof.Machine
end

