-- ==== Sys2Proof/Machine/EngineUnit.lean ====
section
/-! DEFINITION. The bus engine's own events and requests (06_the_bus_engine.md; 09 R163 to R172): RX_FAULT,
START_BIT_READ, STOP_COMPLETE, SYNC_COMPLETE, RECOVERY_INTERVAL, BUS_STUCK, GO_ONLINE, GO_OFFLINE, SET_TIMING,
SET_MODE, ENGINE_STATUS, DIAG_COUNTS. -/

namespace Sys2Proof.Machine

/-! ### RX_FAULT (R108, R166) -/

/-- R108: the engine after a receive fault: the record, the rx count in NORMAL mode, and the burst at the level
of the standing before the fault's own change; in LISTEN no burst is sent. -/
def Engine.rxFaulted (e : Engine) (kind : FaultKind) (tag : Option Tag) (clock : Stamp) : Engine :=
  { e with lastFault := { kind := some kind, direction := .receive, tag := tag, stamp := clock },
           rxCount := if e.mode = .normal then satAdd Config.byteMax e.rxCount 1 else e.rxCount,
           suspensionOwed := false,
           phase := .burst (e.mode = .normal && burstActive e.standing) false }

/-- R165: in LISTEN the ack slot is not driven, so its BIT_ACTIVE cannot be detected. -/
def Engine.detects (e : Engine) (kind : FaultKind) : Bool :=
  e.receives && !(e.mode = .listen && kind = .bitActive)

/-- R108: record, count, standing, counter, BUS_FAULT, then STATE when the standing changed. -/
def State.rxFault (s : State) (kind : FaultKind) (tag : Option Tag) : State :=
  if s.engine.detects kind then
    ((s.setDiag (s.diag.countFault kind)).raise .busFault (.busFault kind .receive)).engineEvent
      (s.engine.rxFaulted kind tag s.clock)
  else s

/-- RX_FAULT (R108). -/
def execRxFault (kind : FaultKind) (tag : Option Tag) (s : State) : Out :=
  if rxFaultWf kind tag then .next (s.rxFault kind tag) else .fault .illFormedCommand

/-! ### START_BIT_READ (R88, R106) -/

/-- R106, R119: the engine in ACTIVE with no frame in progress; STOPPING takes no new frame. The line is not
read in LOOPBACK (R167). -/
def Engine.readsStart (e : Engine) : Bool :=
  e.state = .active && e.mode ≠ .loopback && e.phase ≠ .receiving && e.phase ≠ .sending

/-- R88, R102, R106: a frame is in progress, and a suspension owed is over, also where the start bit was read in
the gap before the suspension's 8 bits (DESIGN CHOICE, log 26). -/
def State.startBit (s : State) : State :=
  if s.engine.readsStart then s.setEngine { s.engine with phase := .receiving, suspensionOwed := false }
  else s

/-- START_BIT_READ (R106). -/
def execStartBitRead (s : State) : Out := .next s.startBit

/-! ### STOP_COMPLETE (R119) -/

/-- R106: the part's fault burst is in progress. -/
def Engine.inBurst (e : Engine) : Bool :=
  match e.phase with
  | .burst _ _ => true
  | _ => false

/-- R119: in STOPPING the burst of the frame in progress ends and the engine goes OFFLINE. -/
def State.stopComplete (s : State) : State :=
  if s.engine.state = .stopping ∧ s.engine.inBurst then s.engineEvent (s.engine.leave .offline) else s

/-- STOP_COMPLETE (R119). -/
def execStopComplete (s : State) : Out := .next s.stopComplete

/-! ### SYNC_COMPLETE, RECOVERY_INTERVAL, BUS_STUCK (R107, R115, R116) -/

/-- R107, R116: the first quiet interval in SYNCING: ACTIVE, the watch stopped and its flag cleared. -/
def State.syncComplete (s : State) : State :=
  if s.engine.state = .syncing then s.engineEvent (s.engine.leave .active) else s

/-- SYNC_COMPLETE (R107). -/
def execSyncComplete (s : State) : Out := .next s.syncComplete

/-- R115: recovery completes: both counts and the mark cleared, ACTIVE. -/
def Engine.recovered (e : Engine) : Engine :=
  { e.leave .active with txCount := 0, rxCount := 0, recoveryOwed := false }

/-- R115, R116: a quiet interval in RECOVERING adds 1 to the progress, clears the flag and starts the watch's
measurement again; the 64th completes recovery. -/
def Engine.interval (e : Engine) : Engine :=
  if Config.recoveryIntervals ≤ e.progress + 1 then e.recovered
  else { e with progress := e.progress + 1, busStuck := false, watchMs := 0 }

/-- R115. -/
def State.recoveryInterval (s : State) : State :=
  if s.engine.state = .recovering then s.engineEvent s.engine.interval else s

/-- RECOVERY_INTERVAL (R115). -/
def execRecoveryInterval (s : State) : Out := .next s.recoveryInterval

/-- R116: 1000 ms have passed in SYNCING or RECOVERING without a quiet interval, and the flag is not set; never
in LOOPBACK (R167). -/
def Engine.stuckDue (e : Engine) : Bool :=
  e.watchCounts && Config.stuckAfter ≤ e.watchMs && !e.busStuck

/-- R116: the flag is set and STATE raised. -/
def State.busStuck (s : State) : State :=
  if s.engine.stuckDue then s.engineEvent { s.engine with busStuck := true } else s

/-- BUS_STUCK (R116). -/
def execBusStuck (s : State) : Out := .next s.busStuck

/-! ### GO_ONLINE and GO_OFFLINE (R117, R118) -/

/-- R117, R118: the engine state and the recovery-owed mark after the request. -/
def engineFields (e : Engine) : List Byte := [engineStateByte e.state, flagByte e.recoveryOwed]

/-- R107, R115, R116: the engine enters SYNCING or RECOVERING with its counts of intervals and its watch
from 0; in LOOPBACK, SYNCING completes in the same event (R117). -/
def Engine.join (e : Engine) : Engine :=
  if e.recoveryOwed ∨ e.state = .withdrawn then e.leave .recovering
  else if e.mode = .loopback then e.leave .active
  else e.leave .syncing

/-- R117: by the engine state. -/
def doGoOnline (_ : Unit) (s : State) : State × Reply :=
  match s.engine.state with
  | .offline => (s.engineEvent s.engine.join, .ok (engineFields s.engine.join))
  | .withdrawn => (s.engineEvent s.engine.join, .ok (engineFields s.engine.join))
  | .syncing => (s, .nothingToDo (engineFields s.engine))
  | .active => (s, .nothingToDo (engineFields s.engine))
  | .recovering => (s, .nothingToDo (engineFields s.engine))
  | .stopping => (s, .refused .wrongState)

/-- GO_ONLINE (R117). -/
def execGoOnline (s : State) : Out := .next (s.request 0x05 parseNone doGoOnline)

/-- R106, R118: whether a frame is in progress as GO_OFFLINE meets it. Up to the clock's second advance after a
fault that depends on bit times no command carries: the free value of log 6. From then on the burst is over
(`delimiter`, log 21), and no frame is in progress, however long the line stays active (R98). -/
def State.frameInProgress (s : State) : Bool :=
  match s.engine.phase with
  | .quiet => false
  | .gap => false
  | .receiving => true
  | .sending => true
  | .delimiter => false
  | .burst _ _ => !Config.burstOver s.freeCount

/-- The counter of free values moves on when GO_OFFLINE asked for one (log 6). -/
def State.useFree (s : State) : State :=
  if s.engine.inBurst then s.setFreeCount (s.freeCount + 1) else s

/-- R118: the engine leaves the bus at once. -/
def State.goOfflineNow (s : State) : State × Reply :=
  (s.engineEvent (s.engine.leave .offline), .ok (engineFields (s.engine.leave .offline)))

/-- R118: the engine finishes the frame in progress first. -/
def State.goStopping (s : State) : State × Reply :=
  (s.engineEvent { s.engine with state := .stopping },
   .deferred (engineFields { s.engine with state := .stopping }))

/-- R118: by the engine state. -/
def doGoOffline (_ : Unit) (s : State) : State × Reply :=
  match s.engine.state with
  | .active => if s.frameInProgress then s.useFree.goStopping else s.useFree.goOfflineNow
  | .syncing => s.goOfflineNow
  | .recovering => s.goOfflineNow
  | .withdrawn => s.goOfflineNow
  | .offline => (s, .nothingToDo (engineFields s.engine))
  | .stopping => (s, .nothingToDo (engineFields s.engine))

/-- GO_OFFLINE (R118). -/
def execGoOffline (s : State) : Out := .next (s.request 0x06 parseNone doGoOffline)

/-! ### SET_TIMING, SET_MODE, ENGINE_STATUS (R121, R164, R122) -/

/-- R121: taken with the engine OFFLINE. -/
def doSetTiming (a : Rate × SamplePoint) (s : State) : State × Reply :=
  if s.engine.state = .offline then
    (s.setEngine { s.engine with rate := a.1, samplePoint := a.2 },
     .ok [rateByte a.1, samplePointByte a.2])
  else (s, .refused .wrongState)

/-- SET_TIMING (R121). -/
def execSetTiming (s : State) : Out := .next (s.request 0x03 parseTiming doSetTiming)

/-- R164: taken with the engine OFFLINE. -/
def doSetMode (m : Mode) (s : State) : State × Reply :=
  if s.engine.state = .offline then (s.setEngine { s.engine with mode := m }, .ok [modeByte m])
  else (s, .refused .wrongState)

/-- SET_MODE (R164). -/
def execSetMode (s : State) : Out := .next (s.request 0x04 parseMode doSetMode)

/-- R122: changes nothing. -/
def doEngineStatus (_ : Unit) (s : State) : State × Reply := (s, .ok (engineBytes s.engine))

/-- ENGINE_STATUS (R122). -/
def execEngineStatus (s : State) : Out := .next (s.request 0x07 parseNone doEngineStatus)

/-! ### DIAG_COUNTS (R171) -/

/-- R171: all seventeen counters are set to 0. -/
def State.clearCounters (s : State) : State :=
  (s.setDiag .zero).setLink { s.link with counters := .zero }

/-- R171: the reply shows the counters before the clear. -/
def doDiagCounts (clear : Bool) (s : State) : State × Reply :=
  (if clear then s.clearCounters else s, .ok (counterBytes s.diag s.link.counters))

/-- DIAG_COUNTS (R171). -/
def execDiagCounts (s : State) : Out := .next (s.request 0x08 parseFlag doDiagCounts)

end Sys2Proof.Machine
end

