-- ==== Sys2Proof/Machine/LinkUnit.lean ====
section
/-! DEFINITION. The host link's own commands (08_the_host_link.md): the framer's three, the output arbiter's
three, IDENTIFY, RESTART and REQUEST_UNKNOWN_KIND. -/

namespace Sys2Proof.Machine

/-! ### The framer (R149 to R153) -/

/-- HOST_FRAME_RECEIVED (R152): the bytes are read one after the other, and a frame they complete is checked,
recognised, rejected or taken into the inbox. -/
def execHostFrameReceived (bs : List Byte) (s : State) : Out := .next (s.setLink (s.link.bytes bs))

/-- LENGTH_FAULT (R149): the bytes are read one after the other, a LEN out of range among them. -/
def execLengthFault (bs : List Byte) (s : State) : Out := .next (s.setLink (s.link.bytes bs))

/-- R150: the gap is taken when the framer is inside a frame and the silence is that of the bytes the command
brings, or the clock has counted 10 advances since the last byte (log 12). -/
def Link.gapAfter (l : Link) (bs : List Byte) : Link :=
  let m := l.bytes bs
  if m.framer.inside && (!bs.isEmpty || Config.gapAtLeast ≤ m.framer.sinceLast) then m.gap else m

/-- GAP_TIMEOUT (R150): the bytes are read, then more than 10 ms pass. -/
def execGapTimeout (bs : List Byte) (s : State) : Out := .next (s.setLink (s.link.gapAfter bs))

/-! ### The output arbiter (R157, R160) -/

/-- R157, R160: an owed HELLO is begun before any other frame. -/
def Link.beginHello (l : Link) (clock : Stamp) : Link :=
  match l.helloOwed with
  | some cause => { l with helloOwed := none, hostOut := some (helloFrame cause clock) }
  | none => l

/-- HELLO_BEGIN (R160). -/
def execHelloBegin (s : State) : Out := .next (s.setLink (s.link.beginHello s.clock))

/-- R154, R159: the processor after the arbiter has begun a reply. -/
def Processor.afterBegin (p : Processor) (fresh : Bool) : Processor :=
  if fresh then
    match p with
    | .restartReplyWaiting => .restartReplyOnLine
    | .free => .free
    | .replyWaiting => .free
    | .restartReplyOnLine => .restartReplyOnLine
  else p

/-- R157, R159: whether the arbiter may begin a waiting reply or reject: no HELLO is owed, and the line is
not the RESTART reply's. -/
def Link.mayBegin (l : Link) : Bool := l.helloOwed.isNone && l.processor ≠ .restartReplyOnLine

/-- R157: the oldest waiting frame is begun, when it is a reply or a resend. -/
def Link.beginReply (l : Link) : Link :=
  if l.mayBegin then
    match l.waiting with
    | .reply fresh frame :: rest =>
      { l with waiting := rest, hostOut := some frame, processor := l.processor.afterBegin fresh }
    | .reject _ :: _ => l
    | [] => l
  else l

/-- REPLY_BEGIN (R157). -/
def execReplyBegin (s : State) : Out := .next (s.setLink s.link.beginReply)

/-- R153, R157: the oldest waiting frame is begun, when it is a reject. -/
def Link.beginReject (l : Link) : Link :=
  if l.mayBegin then
    match l.waiting with
    | .reject r :: rest => { l with waiting := rest, hostOut := some (rejectFrame r) }
    | .reply _ _ :: _ => l
    | [] => l
  else l

/-- REJECT_BEGIN (R157). -/
def execRejectBegin (s : State) : Out := .next (s.setLink s.link.beginReject)

/-! ### IDENTIFY, RESTART and unknown kinds (R158, R159, R154) -/

/-- R158: the vendor, part, revision and capacity values. -/
def identity : List Byte :=
  halfBytes Config.vendorCode ++ halfBytes Config.partCode
    ++ [byteOf Config.revision, byteOf Config.slotCount, byteOf Config.catchDepth,
        byteOf Config.maxPayload, byteOf Config.inboxDepth, byteOf Config.maxWindow]

/-- R158. -/
def doIdentify (_ : Unit) (s : State) : State × Reply := (s, .ok identity)

/-- IDENTIFY (R158). -/
def execIdentify (s : State) : Out := .next (s.request 0x01 parseNone doIdentify)

/-- R159: the reply is OK; the restart itself follows its last byte. -/
def doRestart (_ : Unit) (s : State) : State × Reply := (s, .ok [])

/-- RESTART (R159): from now on the processor takes no further request. -/
def execRestart (s : State) : Out := .next (s.request 0x02 parseNone doRestart .restartReplyWaiting)

/-- R154: a request whose KIND is not a request code is refused with UNKNOWN_KIND. -/
def State.refuseUnknown (s : State) : State :=
  match s.link.next with
  | some r =>
    if isRequestCode r.kind then s else s.dropRequest.finish r (.refused .unknownKind) .replyWaiting
  | none => s

/-- REQUEST_UNKNOWN_KIND (R154). -/
def execRequestUnknownKind (s : State) : Out := .next s.refuseUnknown

end Sys2Proof.Machine
end

