-- ==== Sys2Proof/Machine/NoticeUnit.lean ====
section
/-! DEFINITION. The notice unit's delivery and requests (07_notices.md R131 to R140): NOTICE_DELIVERY,
NOTICE_CONTROL, ACK_NOTICES, RESYNC_NOTICES. -/

namespace Sys2Proof.Machine

/-! ### Delivery (R132 to R135) -/

/-- R133: the highest-ranked pending entry whose pair has no outstanding entry. -/
def Notices.eligible (nt : Notices) : Option (Pair × Entry) :=
  nt.pending.find? fun x => (keyedGet x.1 nt.outstanding).isNone

/-- R135: whether an outstanding entry holds a number. -/
def Notices.holds (nt : Notices) (number : Byte) : Bool := nt.outstanding.any fun x => x.2.number == number

/-- R135: the first number not held, counting up from `n`; `fuel` bounds the search, and 256 numbers are all
there are. -/
def Notices.freeNumber (nt : Notices) : Nat → Byte → Byte
  | 0, n => n
  | fuel + 1, n => if nt.holds n then nt.freeNumber fuel (n + 1) else n

/-- R134: the entry that a grant would send: gate OPEN, outstanding below the window, an entry eligible. -/
def Notices.toDeliver (nt : Notices) : Option (Pair × Entry) :=
  if nt.gate && nt.outstanding.length < nt.window then nt.eligible else none

/-- R134, R135: the entry as it is sent. -/
def Notices.number (nt : Notices) (e : Entry) : Numbered :=
  { entry := e, number := nt.freeNumber 256 nt.nextNumber }

/-- R134, R135: the entry becomes OUTSTANDING under its number, and the counter moves past it. -/
def Notices.send (nt : Notices) (p : Pair) (e : Entry) : Notices :=
  { nt with pending := nt.pending.filter fun x => x.1 ≠ p,
            outstanding := keyedPut p (fun _ => nt.number e) nt.outstanding,
            nextNumber := (nt.number e).number + 1 }

/-- R157: the line goes to a notice only when no HELLO, reply or reject waits, and never between the RESTART
reply and the restart (R159). -/
def Link.grantsNotice (l : Link) : Bool :=
  l.helloOwed.isNone && l.waiting.isEmpty && l.processor ≠ .restartReplyOnLine

/-- R134: one grant sends one entry; where the conditions do not hold the grant does not come, and nothing
changes. -/
def State.deliver (s : State) : State :=
  if s.link.grantsNotice then
    match s.notices.toDeliver with
    | some (p, e) =>
      (s.setNotices (s.notices.send p e)).setLink
        { s.link with hostOut := some (noticeFrame p (s.notices.number e)) }
    | none => s
  else s

/-- NOTICE_DELIVERY (R134). -/
def execNoticeDelivery (s : State) : Out := .next s.deliver

/-! ### NOTICE_CONTROL (R137, R138) -/

/-- R137: the gate and the four enables are replaced. -/
def Notices.control (nt : Notices) (a : NoticeSetting) : Notices :=
  { nt with gate := a.gate, stateEnable := a.stateEnable, tagClashEnable := a.tagClashEnable,
            busFaultEnable := a.busFaultEnable, catchEnable := a.catchEnable }

/-- R137: the reply of NOTICE_CONTROL. -/
def controlFields (nt : Notices) (notify : Byte) : List Byte :=
  [flagByte nt.gate, flagByte nt.stateEnable, flagByte nt.tagClashEnable, flagByte nt.busFaultEnable,
   flagByte nt.catchEnable, byteOf nt.window, byteOf nt.outstanding.length, byteOf nt.pending.length,
   notify]

/-- R138: only the notify field of the slot's configuration is written. -/
def Slot.setNotify (x : Slot) (notify : Bool) : Slot := { x with cfg := { x.cfg with notify := notify } }

/-- R137, R138. -/
def doNoticeControl (a : NoticeSetting) (s : State) : State × Reply :=
  let nt := s.notices.control a
  match a.slot with
  | none => (s.setNotices nt, .ok (controlFields nt 0xFF))
  | some n =>
    if (s.slot n).cfg.role = .none then (s, .refused .notConfigured)
    else ((s.setNotices nt).setSlot n ((s.slot n).setNotify a.notify),
          .ok (controlFields nt (flagByte a.notify)))

/-- NOTICE_CONTROL (R137). -/
def execNoticeControl (s : State) : Out := .next (s.request 0x14 parseNoticeControl doNoticeControl)

/-! ### ACK_NOTICES (R139) -/

/-- R139: the outstanding entries after the numbers are taken. No two of them hold the same number, so a
number removes at most one entry, and a second appearance removes nothing. -/
def removeNumbers (out : List (Pair × Numbered)) (numbers : List Byte) : List (Pair × Numbered) :=
  out.filter fun x => !numbers.contains x.2.number

/-- R139: the notice unit after ACK_NOTICES. -/
def Notices.ack (nt : Notices) (window : Option Nat) (numbers : List Byte) : Notices :=
  { nt with window := window.getD nt.window, outstanding := removeNumbers nt.outstanding numbers }

/-- R139: the reply of ACK_NOTICES. -/
def doAckNotices (a : Option Nat × List Byte) (s : State) : State × Reply :=
  let nt := s.notices.ack a.1 a.2
  (s.setNotices nt,
   .ok [byteOf (s.notices.outstanding.length - nt.outstanding.length), byteOf nt.window,
        byteOf nt.outstanding.length, byteOf nt.pending.length])

/-- ACK_NOTICES (R139). -/
def execAckNotices (s : State) : Out := .next (s.request 0x15 parseAck doAckNotices)

/-! ### RESYNC_NOTICES (R140) -/

/-- R140: a returned entry becomes PENDING, or merges with its pair's pending entry. -/
def Entry.giveBack (e : Entry) : Option Entry → Entry
  | none => e
  | some q => { count := satAdd Config.byteMax e.count q.count, firstStamp := e.firstStamp, detail := q.detail }

/-- R140: every outstanding entry returns. -/
def returnAll (pending : List (Pair × Entry)) (out : List (Pair × Numbered)) : List (Pair × Entry) :=
  out.foldl (fun p x => keyedPut x.1 x.2.entry.giveBack p) pending

/-- R140: the notice unit after RESYNC_NOTICES. -/
def Notices.resync (nt : Notices) : Notices :=
  { nt with pending := returnAll nt.pending nt.outstanding, outstanding := [] }

/-- R140. -/
def doResyncNotices (_ : Unit) (s : State) : State × Reply :=
  (s.setNotices s.notices.resync,
   .ok [byteOf s.notices.outstanding.length, byteOf s.notices.window,
        byteOf s.notices.resync.pending.length])

/-- RESYNC_NOTICES (R140). -/
def execResyncNotices (s : State) : Out := .next (s.request 0x16 parseNone doResyncNotices)

end Sys2Proof.Machine
end

