-- ==== Sys2Proof/Machine/Resets.lean ====
section
/-! DEFINITION. The two resets (00 R1; 08 R159, R162): POWER_UP and RESTART_TAKE_EFFECT. -/

namespace Sys2Proof.Machine

/-- R144: the baud rate that the pins RATE1 and RATE0 select; `true` is high. -/
def baudOf (rate1 rate0 : Bool) : Baud :=
  match rate1, rate0 with
  | false, false => .b115200
  | false, true => .b230400
  | true, false => .b460800
  | true, true => .b921600

/-- POWER_UP (R1): every block takes its power-up values; the clock starts at 0 and the rate is read from the
pins. The commands that wait and the model's count of free values are not the part's and stay. -/
def execPowerUp (rate1 rate0 : Bool) (s : State) : Out :=
  .next (State.afterReset 0 (baudOf rate1 rate0) .powerUp s.freeCount s.pending)

/-- R159: the part takes its restart state; the clock and the rate are kept. -/
def State.restart (s : State) : State :=
  if s.link.processor = .restartReplyOnLine then
    State.afterReset s.clock s.link.baud .restart s.freeCount s.pending
  else s

/-- RESTART_TAKE_EFFECT (R159): when the last byte of the RESTART reply has been sent. -/
def execRestartTakeEffect (s : State) : Out := .next s.restart

end Sys2Proof.Machine
end

