-- ==== Sys2Proof/Machine/Timers.lean ====
section
/-! DEFINITION. What the part clock drives (01 R13, R14; 02 R41; 03 R52; 06 R116; 08 R150): PERIOD_EXPIRY,
DEADLINE_EXPIRY, PART_CLOCK_ADVANCE. -/

namespace Sys2Proof.Machine

/-! ### PERIOD_EXPIRY (R52) -/

/-- R52: what a period expiry does to the slot by its transmit state, the timer reloaded. -/
def Slot.periodExpired (x : Slot) : Slot :=
  let y : Slot := { x with timer := .start x.cfg.interval }
  match x.tx with
  | .idle => y.want .send
  | .pending =>
    if x.reasons.send then { y with skipped := satAdd Config.byteMax x.skipped 1 } else y.want .send
  | .onBus => if x.again then { y with skipped := satAdd Config.byteMax x.skipped 1 } else y.want .send

/-- R13, R52: a period timer runs only in an ENABLED publish slot, and expires when it is due. -/
def Slot.periodDue (x : Slot) : Bool := x.cfg.role = .publish && x.life = .enabled && x.timer = .due

/-- R52; where no expiry is due none happens (R17). -/
def State.periodExpiry (s : State) (n : SlotNo) : State :=
  if (s.slot n).periodDue then s.setSlot n (s.slot n).periodExpired else s

/-- PERIOD_EXPIRY (R52). -/
def execPeriodExpiry (n : SlotNo) (s : State) : Out := .next (s.periodExpiry n)

/-! ### DEADLINE_EXPIRY (R41) -/

/-- R41: the slot is STALE and its timer stops. -/
def Slot.deadlineExpired (x : Slot) : Slot := { x with freshness := .stale, timer := .stopped }

/-- R13, R41: a deadline timer runs only in an ENABLED subscribe slot, and expires when it is due. -/
def Slot.deadlineDue (x : Slot) : Bool := x.cfg.role = .subscribe && x.life = .enabled && x.timer = .due

/-- R41; where no expiry is due none happens (R42, R43). -/
def State.deadlineExpiry (s : State) (n : SlotNo) : State :=
  if (s.slot n).deadlineDue then
    (s.setSlot n (s.slot n).deadlineExpired).raise (.slot n .stale) (.stale (s.slot n).stamp)
  else s

/-- DEADLINE_EXPIRY (R41). -/
def execDeadlineExpiry (n : SlotNo) (s : State) : Out := .next (s.deadlineExpiry n)

/-! ### PART_CLOCK_ADVANCE (R14) -/

/-- R13: whichever expiry of slot `n` is due is taken. -/
def State.takeExpiry (s : State) (n : SlotNo) : State := (s.periodExpiry n).deadlineExpiry n

/-- R87, R97, log 21: the clock has advanced since the part's fault, so at its next advance a whole millisecond
has passed and the burst, 8 bits of 40 µs at the most, is over. -/
def Engine.burstPassed (e : Engine) : Bool :=
  match e.phase with
  | .burst _ ticked => ticked
  | _ => false

/-- R106, R119: the last bit of such a burst has ended the frame in progress: STOPPING is over, and in ACTIVE
the engine waits for the delimiter. -/
def State.takePassedBurst (s : State) : State :=
  if s.engine.burstPassed then
    if s.engine.state = .stopping then s.stopComplete
    else s.setEngine { s.engine with phase := .delimiter }
  else s

/-- Log 4: what earlier milliseconds made due and no command has taken yet is taken before the clock advances
again: expiries in slot-number order, the bus-stuck flag, the end of a burst, the framer's gap. -/
def State.takeOverdue (s : State) : State :=
  let t := (allSlots.foldl State.takeExpiry s).busStuck.takePassedBurst
  t.setLink t.link.takeOverdueGap

/-- Log 21: an advance of the part clock is noted in a fault burst. -/
def BusPhase.tick : BusPhase → BusPhase
  | .burst active _ => .burst active true
  | .quiet => .quiet
  | .receiving => .receiving
  | .sending => .sending
  | .delimiter => .delimiter
  | .gap => .gap

/-- R116: the watch counts part-clock milliseconds while it runs. -/
def Engine.tick (e : Engine) : Engine :=
  { e with watchMs := if e.watchCounts then min Config.stuckAfter (e.watchMs + 1) else e.watchMs,
           phase := e.phase.tick }

/-- R13: one slot at an advance of the part clock. -/
def Slot.tick (x : Slot) : Slot := { x with timer := x.timer.tick }

/-- R13, R14, R116, R150: one millisecond: the clock, wrapping, and everything that counts it. -/
def State.tick (s : State) : State :=
  (((s.setClock (s.clock + 1)).setSlots (mapSlots Slot.tick s.slots)).setEngine s.engine.tick).setLink
    { s.link with framer := s.link.framer.tick }

/-- PART_CLOCK_ADVANCE (R14). -/
def execPartClockAdvance (s : State) : Out := .next s.takeOverdue.tick

end Sys2Proof.Machine
end

