-- ==== Sys2Proof/Machine/Dispatch.lean ====
section
/-! DEFINITION. The dispatch: one arm for each command, one direct call of its meaning. -/

namespace Sys2Proof.Machine

def exec (i : Instr) (s : State) : Host.Outcome State Fault Refusal :=
  match i with
  | .powerUp rate1 rate0 => Sys2Proof.Machine.execPowerUp rate1 rate0 s
  | .identify => Sys2Proof.Machine.execIdentify s
  | .restart => Sys2Proof.Machine.execRestart s
  | .restartTakeEffect => Sys2Proof.Machine.execRestartTakeEffect s
  | .setTiming => Sys2Proof.Machine.execSetTiming s
  | .setMode => Sys2Proof.Machine.execSetMode s
  | .goOnline => Sys2Proof.Machine.execGoOnline s
  | .goOffline => Sys2Proof.Machine.execGoOffline s
  | .engineStatus => Sys2Proof.Machine.execEngineStatus s
  | .diagCounts => Sys2Proof.Machine.execDiagCounts s
  | .setMasks => Sys2Proof.Machine.execSetMasks s
  | .configSlot => Sys2Proof.Machine.execConfigSlot s
  | .enableSlot => Sys2Proof.Machine.execEnableSlot s
  | .disableSlot => Sys2Proof.Machine.execDisableSlot s
  | .writeSlot => Sys2Proof.Machine.execWriteSlot s
  | .readSlot => Sys2Proof.Machine.execReadSlot s
  | .sendSlot => Sys2Proof.Machine.execSendSlot s
  | .querySlot => Sys2Proof.Machine.execQuerySlot s
  | .abortSlot => Sys2Proof.Machine.execAbortSlot s
  | .setCatch => Sys2Proof.Machine.execSetCatch s
  | .takeCatch => Sys2Proof.Machine.execTakeCatch s
  | .noticeControl => Sys2Proof.Machine.execNoticeControl s
  | .ackNotices => Sys2Proof.Machine.execAckNotices s
  | .resyncNotices => Sys2Proof.Machine.execResyncNotices s
  | .requestUnknownKind => Sys2Proof.Machine.execRequestUnknownKind s
  | .hostFrameReceived bytes => Sys2Proof.Machine.execHostFrameReceived bytes s
  | .lengthFault bytes => Sys2Proof.Machine.execLengthFault bytes s
  | .gapTimeout bytes => Sys2Proof.Machine.execGapTimeout bytes s
  | .helloBegin => Sys2Proof.Machine.execHelloBegin s
  | .replyBegin => Sys2Proof.Machine.execReplyBegin s
  | .rejectBegin => Sys2Proof.Machine.execRejectBegin s
  | .noticeDelivery => Sys2Proof.Machine.execNoticeDelivery s
  | .frameEnd frame => Sys2Proof.Machine.execFrameEnd frame s
  | .selection => Sys2Proof.Machine.execSelection s
  | .txSent => Sys2Proof.Machine.execTxSent s
  | .txLost => Sys2Proof.Machine.execTxLost s
  | .txFaulted kind afterTag => Sys2Proof.Machine.execTxFaulted kind afterTag s
  | .rxFault kind tag => Sys2Proof.Machine.execRxFault kind tag s
  | .stopComplete => Sys2Proof.Machine.execStopComplete s
  | .syncComplete => Sys2Proof.Machine.execSyncComplete s
  | .recoveryInterval => Sys2Proof.Machine.execRecoveryInterval s
  | .busStuck => Sys2Proof.Machine.execBusStuck s
  | .periodExpiry slot => Sys2Proof.Machine.execPeriodExpiry slot s
  | .deadlineExpiry slot => Sys2Proof.Machine.execDeadlineExpiry slot s
  | .partClockAdvance => Sys2Proof.Machine.execPartClockAdvance s
  | .startBitRead => Sys2Proof.Machine.execStartBitRead s

end Sys2Proof.Machine
end

