-- ==== Sys2Proof/Machine/Serial.lean ====
section
/-! DEFINITION. The host link's two serial lines bit by bit (08 R144): what HOST_OUT carries for a frame, and
which command of the framer the levels on HOST_IN come to. A level is a Bool, one for each bit time of the rate in
force: `false` is low, `true` is high, and the line is idle high. -/

namespace Sys2Proof.Machine

/-- R144: the bits a second of each rate. -/
def Baud.rate : Baud → Nat
  | .b115200 => 115200
  | .b230400 => 230400
  | .b460800 => 460800
  | .b921600 => 921600

/-! ### One byte -/

/-- R144: a byte as levels: one start bit (low), eight data bits with the least significant first, one stop bit
(high). -/
def serialBits (b : Byte) : List Bool := false :: (List.range 8).map (fun i => b.getLsbD i) ++ [true]

/-- R144: the byte that ten levels give: the value of its data bits, whatever the stop bit. -/
def serialByte (bits : List Bool) : Byte := BitVec.ofNat 8 (valueOf ((bits.drop 1).take 8).reverse)

/-! ### HOST_OUT -/

/-- R144: bytes sent back to back, with no idle time between them. -/
def serialLine (bytes : List Byte) : List Bool := (bytes.map serialBits).flatten

/-- R144, R157: the level of HOST_OUT so many bit times after the arbiter began its last frame: the frame's bytes
and then idle high; idle high before any frame. -/
def State.hostOutLevel (s : State) (bitTimes : Nat) : Bool :=
  match s.link.hostOut with
  | some frame => (serialLine frame).getD bitTimes true
  | none => true

/-! ### HOST_IN -/

/-- R144: the bytes that levels on a serial line give. A low level on the idle line, or right after a stop bit
whatever its level, is a start bit (log 25), so that a line held low gives bytes of 0x00. -/
def serialRead : List Bool → List Byte
  | [] => []
  | true :: rest => serialRead rest
  | false :: b0 :: b1 :: b2 :: b3 :: b4 :: b5 :: b6 :: b7 :: stop :: rest =>
    serialByte [false, b0, b1, b2, b3, b4, b5, b6, b7, stop] :: serialRead rest
  | false :: _ => []

/-- R149: the bytes up to and with the first that brings the framer to an event, and that event. -/
def Framer.firstEvent (f : Framer) : List Byte → Option (List Byte × FramerEvent)
  | [] => none
  | b :: rest =>
    match f.byte b with
    | (g, .none) => (g.firstEvent rest).map fun x => (b :: x.1, x.2)
    | (_, ev) => some ([b], ev)

/-- R144, R149, R151, R152: the framer's command that the levels on HOST_IN come to, none while no frame has ended
and no LEN failed. -/
def hostInCommand (f : Framer) (levels : List Bool) : Option Instr :=
  match f.firstEvent (serialRead levels) with
  | some (bytes, .frame _ _) => some (.hostFrameReceived bytes)
  | some (bytes, .lengthFault) => some (.lengthFault bytes)
  | some (_, .none) => none
  | none => none

end Sys2Proof.Machine
end

