-- ==== Sys2Proof/Safety.lean ====
section
/-! DEFINITION. What claims about the DT-24 are stated in: the laws that the spec says hold at all times, block
by block, and the words for what a host request brings about. -/

namespace Sys2Proof.Machine

/-! ### The slot table (01_the_slot_table.md) -/

/-- R3: a configured length holds at most 16. -/
def CfgLength.inRange : CfgLength → Bool
  | .exact n => n ≤ 16
  | .any => true

/-- R3, R8: a number of retries is within the limit; UNLIMITED allows any. -/
def RetryLimit.allows : RetryLimit → Nat → Bool
  | .limit n, k => k ≤ n
  | .unlimited, _ => true

/-- R3: a numbered retry limit is at most 14. -/
def RetryLimit.inRange : RetryLimit → Bool
  | .limit n => n ≤ 14
  | .unlimited => true

/-- R13: a running timer holds 1 to the interval. -/
def Timer.within (interval : Nat) : Timer → Bool
  | .running ms => 1 ≤ ms && ms ≤ interval
  | .stopped => true
  | .due => true

/-- R3: a configuration that CONFIG_SLOT can have stored. -/
abbrev SlotConfig.Sound (c : SlotConfig) : Prop :=
  (c.role = .none → c = .neutral) ∧
  (c.role = .publish → c.length ≠ .any) ∧
  (c.role = .subscribe → c.answer = false) ∧
  c.interval ≤ 60000 ∧ c.length.inRange = true ∧ c.retryLimit.inRange = true

/-- R8: retries used within the slot's limit, and at most 255. -/
abbrev Slot.RetriesSound (x : Slot) : Prop :=
  x.retries ≤ 255 ∧ x.cfg.retryLimit.allows x.retries = true

/-- R6, R7: what a slot's life and transmit state say of its reasons, marks and timer. -/
abbrev Slot.LifeSound (x : Slot) : Prop :=
  (x.life ≠ .disabled → x.cfg.role ≠ .none) ∧
  (x.life = .disabled → x.tx = .idle ∧ x.timer = .stopped ∧ x.retries = 0) ∧
  (x.life = .draining → x.tx = .onBus ∧ x.timer = .stopped) ∧
  (x.tx = .idle ↔ x.reasons.isEmpty = true) ∧
  (x.again = true ∨ x.abort = true → x.tx = .onBus) ∧
  (x.cfg.role ≠ .publish → x.reasons.send = false ∧ x.reasons.answer = false) ∧
  (x.cfg.role ≠ .subscribe → x.reasons.query = false)

/-- R9, R10, R11, R12: what a slot's role says of its payload, its value and its counts. -/
abbrev Slot.DataSound (x : Slot) : Prop :=
  x.payload.length ≤ 16 ∧
  (x.cfg.role = .none → x.payload = [] ∧ x.seq = 0 ∧ x.stamp = 0) ∧
  (x.cfg.role = .publish → x.cfg.length = .exact x.payload.length) ∧
  (x.cfg.role = .subscribe → (x.dataState = .empty → x.payload = []) ∧
    (x.dataState ≠ .empty → x.cfg.length.accepts x.payload.length = true) ∧
    (x.dataState = .empty ↔ x.stamp = 0)) ∧
  (x.cfg.role ≠ .subscribe → x.dataState = .empty ∧ x.freshness = .current) ∧
  (x.cfg.interval = 0 → x.freshness = .current)

/-- R12: the loss counts within their range, and 0 on slots of the other roles. -/
abbrev Slot.CountsSound (x : Slot) : Prop :=
  x.overrun ≤ 255 ∧ x.lengthRejects ≤ 255 ∧ x.skipped ≤ 255 ∧
  (x.cfg.role ≠ .subscribe → x.overrun = 0 ∧ x.lengthRejects = 0) ∧
  (x.cfg.role ≠ .publish → x.skipped = 0)

/-- R13: a running timer holds 1 to the interval; an interval of 0 never starts one; the period timer of an
ENABLED publish slot never stops. -/
abbrev Slot.TimerSound (x : Slot) : Prop :=
  x.timer.within x.cfg.interval = true ∧
  (x.cfg.interval = 0 → x.timer = .stopped) ∧
  (x.cfg.role = .publish ∧ x.life = .enabled ∧ x.cfg.interval ≠ 0 → x.timer ≠ .stopped)

/-- R3, R6 to R13: one slot record. -/
abbrev Slot.Sound (x : Slot) : Prop :=
  x.cfg.Sound ∧ x.RetriesSound ∧ x.LifeSound ∧ x.DataSound ∧ x.CountsSound ∧ x.TimerSound

/-- R56: the transmit buffer holds the frame of the one slot that is ON_BUS, under that slot's tag and of the
kind its role sends, and is empty when none is. -/
abbrev State.BufferSound (s : State) : Prop :=
  (s.txBuffer = none → ∀ n, (s.slot n).tx ≠ .onBus) ∧
  ∀ rec ∈ s.txBuffer,
    (∀ n, (s.slot n).tx = .onBus ↔ n = rec.slot) ∧
    rec.frame.tag = (s.slot rec.slot).cfg.tag ∧
    frameKind rec.frame = (s.slot rec.slot).sends ∧
    rec.frame.wf = true

/-- The slot table and the transmit buffer (R6 to R13, R56). -/
abbrev State.SlotsSound (s : State) : Prop := (∀ n, (s.slot n).Sound) ∧ s.BufferSound

/-- R16: no two ENABLED or DRAINING publish slots hold the same tag. -/
abbrev State.TagsUnique (s : State) : Prop :=
  ∀ m n, (s.slot m).publishing = true → (s.slot n).publishing = true →
    (s.slot m).cfg.tag = (s.slot n).cfg.tag → m = n

/-! ### The catch queue (R75, R76) -/

/-- R75, R76: at most 8 records of bus frames, and the overflow count within its range. -/
abbrev CatchQueue.Sound (c : CatchQueue) : Prop :=
  c.queue.length ≤ 8 ∧ c.overflow ≤ 65535 ∧ ∀ r ∈ c.queue, r.frame.wf = true

/-! ### The bus engine (06_the_bus_engine.md) -/

/-- R110, R111, R113, R115: the counts in range; the mark set exactly from 224 on, and then only away from the
bus; the progress below 64 and 0 outside RECOVERING. -/
abbrev Engine.CountsSound (e : Engine) : Prop :=
  e.txCount ≤ 255 ∧ e.rxCount ≤ 255 ∧
  (e.recoveryOwed = true ↔ 224 ≤ e.txCount) ∧
  (e.recoveryOwed = true → e.state = .withdrawn ∨ e.state = .offline ∨ e.state = .recovering) ∧
  (e.state = .withdrawn ∨ e.state = .recovering → e.recoveryOwed = true) ∧
  e.progress < 64 ∧ (e.progress ≠ 0 → e.state = .recovering)

/-- R116, R167: the watch and its flag stand only in SYNCING and RECOVERING, and never in LOOPBACK. -/
abbrev Engine.WatchSound (e : Engine) : Prop :=
  e.watchMs ≤ 1000 ∧ (e.watchMs ≠ 0 ∨ e.busStuck = true → e.watching = true ∧ e.mode ≠ .loopback)

/-- R105: the phase is that of an active fault burst. -/
def BusPhase.activeBurst : BusPhase → Bool
  | .burst active _ => active
  | _ => false

/-- R54, R104, R105, R106, R109: what the engine's state and mode say of the line. -/
abbrev Engine.LineSound (e : Engine) : Prop :=
  (e.phase ≠ .quiet ∨ e.suspensionOwed = true → e.onLine = true) ∧
  (e.state = .stopping → e.phase ≠ .quiet ∧ e.phase ≠ .gap ∧ e.phase ≠ .delimiter) ∧
  (e.mode = .listen → e.phase ≠ .sending ∧ e.suspensionOwed = false) ∧
  (e.mode = .loopback → e.phase ≠ .receiving ∧ e.phase ≠ .delimiter ∧ e.inBurst = false) ∧
  (e.phase.activeBurst = true → e.mode = .normal)

/-- The bus engine and the transmit buffer: a frame is in the buffer exactly while the engine sends it. -/
abbrev State.EngineSound (s : State) : Prop :=
  s.engine.CountsSound ∧ s.engine.WatchSound ∧ s.engine.LineSound ∧
    (s.engine.phase = .sending ↔ s.txBuffer.isSome = true)

/-- R169: the eleven counters within their range. -/
abbrev DiagCounters.Sound (d : DiagCounters) : Prop :=
  d.framesSent ≤ 65535 ∧ d.framesValid ≤ 65535 ∧ d.arbitrationLosses ≤ 65535 ∧ d.coding ≤ 65535 ∧
  d.form ≤ 65535 ∧ d.check ≤ 65535 ∧ d.noAck ≤ 65535 ∧ d.bitPassive ≤ 65535 ∧ d.bitActive ≤ 65535 ∧
  d.unclaimed ≤ 65535 ∧ d.tagClashes ≤ 65535

/-- Every counter of the second is at least that of the first. -/
abbrev DiagCounters.AtMost (c d : DiagCounters) : Prop :=
  c.framesSent ≤ d.framesSent ∧ c.framesValid ≤ d.framesValid ∧
  c.arbitrationLosses ≤ d.arbitrationLosses ∧ c.coding ≤ d.coding ∧ c.form ≤ d.form ∧
  c.check ≤ d.check ∧ c.noAck ≤ d.noAck ∧ c.bitPassive ≤ d.bitPassive ∧ c.bitActive ≤ d.bitActive ∧
  c.unclaimed ≤ d.unclaimed ∧ c.tagClashes ≤ d.tagClashes

/-- R104: the transitions of the engine's state that its table lists, resets apart, and staying. -/
def engineMayGo : EngineState → EngineState → Bool
  | .offline, .offline | .offline, .syncing | .offline, .active | .offline, .recovering => true
  | .syncing, .syncing | .syncing, .active | .syncing, .offline => true
  | .active, .active | .active, .offline | .active, .stopping | .active, .withdrawn => true
  | .stopping, .stopping | .stopping, .offline => true
  | .withdrawn, .withdrawn | .withdrawn, .recovering | .withdrawn, .offline => true
  | .recovering, .recovering | .recovering, .active | .recovering, .offline => true
  | _, _ => false

/-! ### Commands in a row (log 4) -/

/-- Commands carried out one after the other, up to the first that leaves no next state. -/
def execAll : List Instr → State → Out
  | [], s => .next s
  | c :: rest, s =>
    match exec c s with
    | .next t => execAll rest t
    | .fault f => .fault f
    | .refused r => .refused r

/-- R13, R106, R116, R119, R150, log 4: the commands that what is overdue comes to: every slot's expiries in
slot-number order (each of no effect where none is due), the bus-stuck flag, the end of a burst of which the clock
knows that it is over in STOPPING (log 21), and a framer gap that has surely passed (log 12). -/
def State.overdue (s : State) : List Instr :=
  allSlots.flatMap (fun n => [Instr.periodExpiry n, Instr.deadlineExpiry n]) ++ [Instr.busStuck]
    ++ (if s.engine.state = .stopping ∧ s.engine.burstPassed then [Instr.stopComplete] else [])
    ++ (if s.link.framer.buf ≠ [] ∧ 11 ≤ s.link.framer.sinceLast then [Instr.gapTimeout []] else [])

/-! ### The notice unit (07_notices.md) -/

/-- R128: a detail is of the kind its pair names. -/
def Detail.fits : Pair → Detail → Bool
  | .state, .state _ _ _ _ => true
  | .tagClash, .tagClash _ _ => true
  | .busFault, .busFault _ _ => true
  | .overflow, .overflow _ _ _ => true
  | .arrival, .arrival _ _ _ => true
  | .slot _ .sendFailed, .sendFailed _ _ _ _ => true
  | .slot _ .stale, .stale _ => true
  | .slot _ .drained, .drained _ => true
  | .slot _ .received, .received _ _ _ => true
  | .slot _ .sent, .sent _ _ _ _ => true
  | .slot _ .querySeen, .querySeen _ => true
  | _, _ => false

/-- R126, R128: an entry of a pair. -/
abbrev Entry.Sound (p : Pair) (e : Entry) : Prop := 1 ≤ e.count ∧ e.count ≤ 255 ∧ e.detail.fits p = true

/-- R129, R132, R135: at most one pending and one outstanding entry a pair (both lists strictly rising in
rank), at most 8 outstanding, no notice number twice, the window at most 8. -/
abbrev Notices.Sound (nt : Notices) : Prop :=
  keyedWf nt.pending = true ∧ keyedWf nt.outstanding = true ∧
  nt.outstanding.length ≤ 8 ∧ nt.window ≤ 8 ∧
  (nt.outstanding.map fun x => x.2.number).Nodup ∧
  (∀ x ∈ nt.pending, x.2.Sound x.1) ∧ (∀ x ∈ nt.outstanding, x.2.entry.Sound x.1)

/-! ### The host link (08_the_host_link.md) -/

/-- R149, R150: hunting, or a SYNC with fewer bytes than its LEN asks for, and the running check over them. -/
abbrev Framer.Sound (f : Framer) : Prop :=
  f.sinceLast ≤ 11 ∧
  (f.buf = [] ∨ f = { f with buf := [syncByte], crc := 0xFFFF } ∨
    (2 ≤ f.buf.length ∧ f.buf.head? = some syncByte ∧
      2 ≤ (f.buf.getD 1 0).toNat ∧ (f.buf.getD 1 0).toNat ≤ 62 ∧
      f.buf.length < (f.buf.getD 1 0).toNat + 4 ∧
      f.crc = hostCrc ((f.buf.take ((f.buf.getD 1 0).toNat + 2)).drop 1)))

/-- R154: whether a waiting item is a fresh reply. -/
def OutItem.isFresh : OutItem → Bool
  | .reply fresh _ => fresh
  | .reject _ => false

/-- R161. -/
abbrev LinkCounters.Sound (c : LinkCounters) : Prop :=
  c.lengthFaults ≤ 65535 ∧ c.gapTimeouts ≤ 65535 ∧ c.checkFailures ≤ 65535 ∧
  c.rejectsDropped ≤ 65535 ∧ c.dupResent ≤ 65535 ∧ c.dupDiscarded ≤ 65535

/-- R153, R154, R156: at most 4 requests, 4 replies of different SEQ and 4 rejects; a fresh reply waits exactly
while the processor waits for the line to begin it. -/
abbrev Link.Sound (l : Link) : Prop :=
  l.framer.Sound ∧ l.inbox.length ≤ 4 ∧ (∀ r ∈ l.inbox, r.body.length ≤ 60) ∧
  l.history.length ≤ 4 ∧ (l.history.map fun e => e.seq).Nodup ∧
  (l.waiting.filter OutItem.isReject).length ≤ 4 ∧
  (l.waiting.filter OutItem.isFresh).length
    = (if l.processor = .replyWaiting ∨ l.processor = .restartReplyWaiting then 1 else 0) ∧
  l.counters.Sound

/-! ### Host requests (R147, R154) -/

/-- R147: the request code of a command that takes a host request. -/
def requestCode : Instr → Option Byte
  | .identify => some 0x01
  | .restart => some 0x02
  | .setTiming => some 0x03
  | .setMode => some 0x04
  | .goOnline => some 0x05
  | .goOffline => some 0x06
  | .engineStatus => some 0x07
  | .diagCounts => some 0x08
  | .setMasks => some 0x09
  | .configSlot => some 0x0A
  | .enableSlot => some 0x0B
  | .disableSlot => some 0x0C
  | .writeSlot => some 0x0D
  | .readSlot => some 0x0E
  | .sendSlot => some 0x0F
  | .querySlot => some 0x10
  | .abortSlot => some 0x11
  | .setCatch => some 0x12
  | .takeCatch => some 0x13
  | .noticeControl => some 0x14
  | .ackNotices => some 0x15
  | .resyncNotices => some 0x16
  | _ => none

/-- R147: whether a body's length is one the request's kind accepts. -/
def bodyLengthOk (c : Instr) (body : List Byte) : Bool :=
  match c with
  | .setTiming => body.length = 2
  | .setMode => body.length = 1
  | .diagCounts => body.length = 1
  | .setMasks => body.length = 6
  | .configSlot => body.length = 12
  | .enableSlot => body.length = 1
  | .disableSlot => body.length = 1
  | .writeSlot => 3 ≤ body.length && body.length = 3 + (body.getD 2 0).toNat
  | .readSlot => body.length = 2
  | .sendSlot => body.length = 1
  | .querySlot => body.length = 1
  | .abortSlot => body.length = 1
  | .setCatch => body.length = 8
  | .takeCatch => body.length = 1
  | .noticeControl => body.length = 7
  | .ackNotices => 2 ≤ body.length && body.length ≤ 9
  | _ => body.length = 0

/-- R146, R147: for each field of a request's body, in body order, whether its bytes are in range. -/
def fieldsInRange (c : Instr) (body : List Byte) : List Bool :=
  let b (i : Nat) : Nat := (body.getD i 0).toNat
  match c with
  | .setTiming => [decide (b 0 ≤ 5), [60, 65, 70, 75, 80, 85].contains (b 1)]
  | .setMode => [decide (b 0 ≤ 2)]
  | .diagCounts => [decide (b 0 ≤ 1)]
  | .configSlot =>
    [decide (b 0 ≤ 23), decide (b 1 ≤ 2), true, decide (b 5 ≤ 2),
     decide (b 6 ≤ 16) || (b 6 == 0xFF && b 1 != 1), decide (b 7 * 256 + b 8 ≤ 60000),
     decide (b 9 ≤ 15), decide (b 10 ≤ 1), decide (b 11 ≤ 1)]
  | .enableSlot => [decide (b 0 ≤ 23)]
  | .disableSlot => [decide (b 0 ≤ 23)]
  | .writeSlot => [decide (b 0 ≤ 23), decide (b 1 ≤ 1), decide (b 2 ≤ 16)]
  | .readSlot => [decide (b 0 ≤ 23), decide (b 1 ≤ 1)]
  | .sendSlot => [decide (b 0 ≤ 23)]
  | .querySlot => [decide (b 0 ≤ 23)]
  | .abortSlot => [decide (b 0 ≤ 23)]
  | .setCatch => [decide (b 0 ≤ 1), true, true, decide (b 7 ≤ 1)]
  | .takeCatch => [decide (b 0 ≤ 1)]
  | .noticeControl =>
    [decide (b 0 ≤ 1), decide (b 1 ≤ 1), decide (b 2 ≤ 1), decide (b 3 ≤ 1), decide (b 4 ≤ 1),
     decide (b 5 ≤ 23) || b 5 == 0xFF, decide (b 6 ≤ 1)]
  | .ackNotices => [decide (b 0 ≤ 8) || b 0 == 0xFF]
  | _ => []

/-- R154: the request processor is free and the oldest request of the inbox is `r`. -/
abbrev State.Takes (s : State) (r : Request) : Prop :=
  s.link.processor = .free ∧ s.link.inbox.head? = some r

/-- R154, R156: the state once request `r` has been answered, everything but the link as it was: the request
has left the inbox, the reply is in the history and waits for the line as a fresh reply. -/
def State.answered (s : State) (r : Request) (rep : Reply) : State :=
  { s with link :=
    { s.link with
      inbox := s.link.inbox.tail
      history := historyPut s.link.history { seq := r.seq, kind := r.kind, frame := replyFrame r rep }
      waiting := s.link.waiting ++ [.reply true (replyFrame r rep)]
      processor := .replyWaiting } }

end Sys2Proof.Machine
end

