-- ==== Sys2Proof/Certificates/Slice0/Obligations.lean ====
section
/-! DEFINITION. The statements about the DT-24 for the provers, each one proposition. -/

open Sys2Proof Sys2Proof.Machine

/-! ### The queue of commands and the resets -/

/-- The step carries out the command at the front of the queue with the queue's rest, and idles on an empty
queue (the model's own queue; log 15). -/
def Obligations.StepTakesTheFrontCommand : Prop :=
  (∀ (c : Instr) (rest : List Instr) (s : State),
    s.pending = c :: rest → step s = exec c { s with pending := rest }) ∧
  (∀ s : State, s.pending = [] → step s = .next s)

/-- R1, R14, R23, R74, R85, R125, R143, R144, R162, R170: what power-up leaves. Not claimed: the direction of
the empty last-fault record, which the spec does not give (log 10). The waiting commands and the model's count
of free values are no part of the DT-24 and stay (log 17). -/
def Obligations.PowerUpGivesTheResetValues : Prop :=
  ∀ (rate1 rate0 : Bool) (s : State), ∃ t, exec (.powerUp rate1 rate0) s = .next t ∧
    (∀ n, t.slot n =
      { cfg := { role := .none, tag := 0, mtch := .exact, length := .exact 0, interval := 0,
                 retryLimit := .limit 0, answer := false, notify := false },
        life := .disabled, tx := .idle, reasons := ⟨false, false, false⟩, again := false,
        abort := false, retries := 0, payload := [], seq := 0, stamp := 0, dataState := .empty,
        freshness := .current, overrun := 0, lengthRejects := 0, skipped := 0, timer := .stopped }) ∧
    t.maskA = 0xFFFFFF ∧ t.maskB = 0xFFFFFF ∧ t.clock = 0 ∧ t.txBuffer = none ∧
    t.catchQ = { enable := false, mask := 0xFFFFFF, pattern := 0, queue := [], overflow := 0 } ∧
    t.engine.state = .offline ∧ t.engine.mode = .normal ∧ t.engine.rate = .k100 ∧
    t.engine.samplePoint = .p75 ∧ t.engine.txCount = 0 ∧ t.engine.rxCount = 0 ∧
    t.engine.standing = .normal ∧ t.engine.recoveryOwed = false ∧ t.engine.progress = 0 ∧
    t.engine.busStuck = false ∧ t.engine.watchMs = 0 ∧ t.engine.lastFault.kind = none ∧
    t.engine.lastFault.tag = none ∧ t.engine.lastFault.stamp = 0 ∧
    t.engine.suspensionOwed = false ∧ t.engine.phase = .quiet ∧
    t.diag = ⟨0, 0, 0, 0, 0, 0, 0, 0, 0, 0, 0⟩ ∧
    t.notices = { pending := [], outstanding := [], gate := false, window := 4, stateEnable := true,
                  tagClashEnable := false, busFaultEnable := false, catchEnable := false,
                  nextNumber := 0 } ∧
    t.link = { baud := (if rate1 then (if rate0 then .b921600 else .b460800)
                        else (if rate0 then .b230400 else .b115200)),
               framer := ⟨[], 0xFFFF, 0⟩, inbox := [], history := [], waiting := [],
               processor := .free, helloOwed := some .powerUp, hostOut := none,
               counters := ⟨0, 0, 0, 0, 0, 0⟩ } ∧
    t.freeCount = s.freeCount ∧ t.pending = s.pending

/-- R159: RESTART is answered OK in every engine state, and the processor then takes no request; once its reply
is the frame on the line, the restart gives every block what power-up gives it, but for the part
clock and the baud rate, which stay, and the cause of HELLO (R14, R24, R162). Before that it does not come
about (log 2). -/
def Obligations.RestartFollowsItsReply : Prop :=
  (∀ (s : State) (r : Request), s.Takes r → r.kind = 0x02 → r.body = [] →
    ∃ t, exec .restart s = .next t ∧
      t = { s.answered r (.ok []) with
            link := { (s.answered r (.ok [])).link with processor := .restartReplyWaiting } } ∧
      ∀ q, ¬ t.Takes q) ∧
  (∀ s : State, s.link.processor = .restartReplyOnLine →
    ∃ t, exec .restartTakeEffect s = .next t ∧
      ∃ u, exec (.powerUp false false) s = .next u ∧
        t = { u with clock := s.clock, link := { u.link with baud := s.link.baud, helloOwed := some .restart } } ∧
      ∀ n, (t.slot n).cfg.role = .none ∧ (t.slot n).life = .disabled) ∧
  (∀ s : State, s.link.processor ≠ .restartReplyOnLine → exec .restartTakeEffect s = .next s)

/-! ### The laws that hold at all times -/

/-- The state after power-up meets every law of Safety.lean. -/
def Obligations.PowerUpMeetsTheLaws : Prop :=
  ∀ (rate1 rate0 : Bool) (s : State), ∃ t, exec (.powerUp rate1 rate0) s = .next t ∧
    t.SlotsSound ∧ t.TagsUnique ∧ t.catchQ.Sound ∧ t.EngineSound ∧ t.diag.Sound ∧ t.notices.Sound ∧
    t.link.Sound ∧ State.reset.SlotsSound ∧ State.reset.TagsUnique ∧ State.reset.catchQ.Sound ∧
    State.reset.EngineSound ∧ State.reset.diag.Sound ∧ State.reset.notices.Sound ∧ State.reset.link.Sound

/-- R6 to R13, R56: every step keeps the slot table and the transmit buffer sound: reasons empty exactly when
IDLE, marks only while ON_BUS, a DISABLED slot IDLE with its timer stopped, a DRAINING one ON_BUS, retries
within the limit, payload lengths as configured, at most one slot ON_BUS and its frame in the buffer. -/
def Obligations.StepKeepsTheSlotTableSound : Prop :=
  ∀ s t : State, s.SlotsSound → step s = .next t → t.SlotsSound

/-- R16: every step keeps the tags of ENABLED and DRAINING publish slots apart. -/
def Obligations.StepKeepsPublishTagsApart : Prop :=
  ∀ s t : State, s.TagsUnique → step s = .next t → t.TagsUnique

/-- R105, R110 to R116, R167: every step keeps the engine sound: the recovery-owed mark set exactly from a tx count
of 224 on and then only in WITHDRAWN, OFFLINE or RECOVERING, the progress and the watch only where they run and the
watch at 0 in LOOPBACK, no frame in progress away from the bus, no frame sent in LISTEN, a frame in the buffer
exactly while it is sent. -/
def Obligations.StepKeepsTheEngineSound : Prop :=
  ∀ s t : State, s.EngineSound → step s = .next t → t.EngineSound

/-- R129, R132, R135: every step keeps the notice set sound: one pending and one outstanding entry a pair, at
most 8 outstanding, no number twice, counts 1 to 255, details of their pair's kind. -/
def Obligations.StepKeepsTheNoticeSetSound : Prop :=
  ∀ s t : State, s.notices.Sound → step s = .next t → t.notices.Sound

/-- R149, R153, R154, R156, R161: every step keeps the host link sound: at most 4 requests, 4 rejects and 4
replies of different SEQ, at most one fresh reply ahead of the line, the framer's running check that of the
bytes it holds. -/
def Obligations.StepKeepsTheHostLinkSound : Prop :=
  ∀ s t : State, s.link.Sound → step s = .next t → t.link.Sound

/-- R75, R76: every step keeps the catch queue at 8 records or fewer, each a frame the bus can carry, and its
overflow count in range. A looped frame comes from the transmit buffer, so the slot table's law is a premise. -/
def Obligations.StepKeepsTheCatchQueueSound : Prop :=
  ∀ s t : State, s.SlotsSound → s.catchQ.Sound → step s = .next t → t.catchQ.Sound

/-- R104: whatever the command, power-up and the restart apart, the engine's state goes only where the table
of transitions lets it, and a change of state raises a STATE event that carries the new state (R123). -/
def Obligations.EngineStateGoesOnlyWhereListed : Prop :=
  ∀ (c : Instr) (s t : State), s.EngineSound → keyedWf s.notices.pending = true →
    (∀ a b, c ≠ .powerUp a b) → c ≠ .restartTakeEffect → exec c s = .next t →
    engineMayGo s.engine.state t.engine.state = true ∧
    (t.engine.state ≠ s.engine.state → s.notices.stateEnable = true →
      ∃ e, keyedGet .state t.notices.pending = some e ∧
        e.detail = .state t.engine.state t.engine.standing t.engine.recoveryOwed t.engine.busStuck)

/-- R14: the part clock goes up by one, wrapping, at PART_CLOCK_ADVANCE, is 0 after power-up, and nothing else
touches it: it has no request of its own, and the restart keeps it. -/
def Obligations.OnlyTheClockAdvanceMovesTheClock : Prop :=
  (∀ s : State, ∃ t, exec .partClockAdvance s = .next t ∧ t.clock = s.clock + 1) ∧
  (∀ (a b : Bool) (s : State), ∃ t, exec (.powerUp a b) s = .next t ∧ t.clock = 0) ∧
  (∀ (c : Instr) (s t : State), c ≠ .partClockAdvance → (∀ a b, c ≠ .powerUp a b) →
    exec c s = .next t → t.clock = s.clock)

/-- R2, R138: whatever the command, resets apart, a slot that is not DISABLED keeps its configuration, but for
the notify field, which NOTICE_CONTROL alone may write. -/
def Obligations.ConfigurationIsWrittenOnlyWhileDisabled : Prop :=
  ∀ (c : Instr) (s t : State) (n : SlotNo), (∀ a b, c ≠ .powerUp a b) → c ≠ .restartTakeEffect →
    exec c s = .next t → (s.slot n).life ≠ .disabled →
    { (t.slot n).cfg with notify := (s.slot n).cfg.notify } = (s.slot n).cfg ∧
    (c ≠ .noticeControl → (t.slot n).cfg = (s.slot n).cfg)

/-- R56, R57: from selection to the outcome nothing changes the record in the transmit buffer; only an outcome
empties it, resets apart. -/
def Obligations.OnlyAnOutcomeEmptiesTheTransmitBuffer : Prop :=
  ∀ (c : Instr) (s t : State) (rec : TxRecord), (∀ a b, c ≠ .powerUp a b) → c ≠ .restartTakeEffect →
    s.txBuffer = some rec → exec c s = .next t →
    t.txBuffer = some rec ∨
      (t.txBuffer = none ∧ (c = .txSent ∨ c = .txLost ∨ ∃ k a, c = .txFaulted k a))

/-- R170: the two resets, and DIAG_COUNTS with the clear flag, set the eleven counters to 0, and nothing else
lowers one, a DIAG_COUNTS that takes no request with the clear flag set among it. Its premise, each counter within
its 16 bits (R169), is kept by every step. -/
def Obligations.OnlyResetsAndDiagCountsLowerCounters : Prop :=
  (∀ (a b : Bool) (s : State), ∃ t, exec (.powerUp a b) s = .next t ∧ t.diag = .zero) ∧
  (∀ s : State, s.link.processor = .restartReplyOnLine →
    ∃ t, exec .restartTakeEffect s = .next t ∧ t.diag = .zero) ∧
  (∀ (s : State) (r : Request), s.Takes r → r.kind = 0x08 → r.body = [1] →
    ∃ t, exec .diagCounts s = .next t ∧ t.diag = .zero) ∧
  (∀ (c : Instr) (s t : State), s.diag.Sound → (∀ a b, c ≠ .powerUp a b) → c ≠ .restartTakeEffect →
    (c = .diagCounts → ∀ r, s.Takes r → r.kind = 0x08 → r.body ≠ [1]) →
    exec c s = .next t → s.diag.AtMost t.diag) ∧
  (∀ s t : State, s.diag.Sound → step s = .next t → t.diag.Sound)

/-! ### Host requests in common (R154, R156) -/

/-- R154, R156: a command that takes a request of its kind from a free processor answers it once: the request
leaves the inbox, the reply joins the history and the output order, in one next state; a reply that is a
refusal or NOTHING_TO_DO changes nothing else, but for SEND_SLOT's reason (R48). That a QUERY_SLOT with nothing to do
changes nothing (R49) rests on the slot table's law: a PENDING subscribe slot holds QUERY. A command whose request is
not the next one does nothing (log 2). -/
def Obligations.EveryRequestTakenIsAnsweredOnce : Prop :=
  ∀ (c : Instr) (code : Byte) (s : State), requestCode c = some code →
    (∀ r, s.Takes r → r.kind = code →
      ∃ t rep, exec c s = .next t ∧ t.link.inbox = s.link.inbox.tail ∧
        t.link.history
          = historyPut s.link.history { seq := r.seq, kind := r.kind, frame := replyFrame r rep } ∧
        t.link.waiting = s.link.waiting ++ [.reply true (replyFrame r rep)] ∧
        t.link.processor ≠ .free ∧
        ((∃ e, rep = .refused e) ∨ (∃ i, rep = .badValue i) → t = s.answered r rep) ∧
        ((∃ f, rep = .nothingToDo f) → c ≠ .sendSlot → (c = .querySlot → s.SlotsSound) →
          t = s.answered r rep)) ∧
    ((∀ r, s.Takes r → r.kind ≠ code) → exec c s = .next s)

/-- R147, R154: the body's length is checked first, and then its fields in body order; the first field out of
range is named by its index. -/
def Obligations.BadBodiesAreRefused : Prop :=
  ∀ (c : Instr) (code : Byte) (s : State) (r : Request), requestCode c = some code →
    s.Takes r → r.kind = code →
    (bodyLengthOk c r.body = false → exec c s = .next (s.answered r (.refused .badLength))) ∧
    (∀ i, bodyLengthOk c r.body = true → (fieldsInRange c r.body)[i]? = some false →
      (∀ j, j < i → (fieldsInRange c r.body)[j]? = some true) →
      exec c s = .next (s.answered r (.badValue i)))

/-- R156: what a reply does to a history of at most 4 entries with no SEQ twice: an entry of the same SEQ leaves
first, then the oldest of 4, and the reply is the newest; at most 4 stay and no SEQ is twice. -/
def Obligations.HistoryKeepsTheFourNewestReplies : Prop :=
  ∀ (h : List HistEntry) (e : HistEntry), h.length ≤ 4 → (h.map fun x => x.seq).Nodup →
    (historyPut h e).length ≤ 4 ∧ ((historyPut h e).map fun x => x.seq).Nodup ∧
    (historyPut h e).getLast? = some e ∧
    (∀ x ∈ h, x.seq ≠ e.seq → h.head? ≠ some x → x ∈ historyPut h e) ∧
    (h.length = 4 → (∀ x ∈ h, x.seq ≠ e.seq) → historyPut h e = h.tail ++ [e]) ∧
    (∀ pre x post, h = pre ++ x :: post → x.seq = e.seq → historyPut h e = pre ++ post ++ [e]) ∧
    (h.length < 4 → (∀ x ∈ h, x.seq ≠ e.seq) → historyPut h e = h ++ [e])

/-- R158: IDENTIFY reports the part's codes and sizes and changes nothing; HELLO carries the same revision. -/
def Obligations.IdentifyReportsThePart : Prop :=
  (∀ (s : State) (r : Request), s.Takes r → r.kind = 0x01 → r.body = [] →
    exec .identify s
      = .next (s.answered r (.ok [0x01, 0x57, 0x00, 0x24, 1, 24, 8, 16, 4, 8]))) ∧
  (∀ cause clock, (helloBody cause clock)[1]? = some 1)

/-- R154: a KIND that is no request code is refused with UNKNOWN_KIND. That the command takes the request at the head
of the inbox, and does nothing where that is of a known kind or there is none, is the model's own choice (log 1,
log 2). -/
def Obligations.UnknownKindsAreRefused : Prop :=
  (∀ (s : State) (r : Request), s.Takes r → (r.kind = 0 ∨ 0x16 < r.kind.toNat) →
    exec .requestUnknownKind s = .next (s.answered r (.refused .unknownKind))) ∧
  (∀ s : State, (∀ r, s.Takes r → r.kind ≠ 0 ∧ r.kind.toNat ≤ 0x16) →
    exec .requestUnknownKind s = .next s)

/-! ### Receiving frames (R149 to R153) -/

/-- R145, R149, R150, R152: a frame with a good check whose last bytes come with the command is taken by the first
of the four tests that applies, and changes the link alone: a hunting framer reads the whole frame, and one inside
the frame the rest of it. Bytes that come in several commands are read as in one; where the clock shows a gap of more
than 10 ms before the next byte, the partial frame is first discarded and counted (log 12). A copy of a stored reply
is known by its bytes (log 14). -/
def Obligations.GoodHostFramesAreTaken : Prop :=
  (∀ (s : State) (kind seq : Byte) (body got rest : List Byte), body.length ≤ 60 →
    got ++ rest = envelope kind seq body → rest ≠ [] →
    s.link.framer.buf = got → s.link.framer.Sound → s.link.framer.sinceLast < 11 →
    let c := Instr.hostFrameReceived rest
    let l : Link := { s.link with framer := .hunting }
    (∀ pre e post, l.history = pre ++ e :: post → e.seq = seq → e.kind = kind →
      (∀ x ∈ pre, ¬ (x.seq = seq ∧ x.kind = kind)) →
      let copyWaits : Prop :=
        (OutItem.reply true e.frame ∈ l.waiting) ∨ (OutItem.reply false e.frame ∈ l.waiting)
      (copyWaits → exec c s = .next { s with link := { l with counters := { l.counters with
        dupDiscarded := min 65535 (l.counters.dupDiscarded + 1) } } }) ∧
      (¬ copyWaits → exec c s = .next { s with link := { l with
        waiting := l.waiting ++ [OutItem.reply false e.frame]
        counters := { l.counters with dupResent := min 65535 (l.counters.dupResent + 1) } } })) ∧
    ((∀ x ∈ l.history, ¬ (x.seq = seq ∧ x.kind = kind)) →
      ((∃ q ∈ l.inbox, q.seq = seq ∧ q.kind = kind) →
        exec c s = .next { s with link := { l with counters := { l.counters with
          dupDiscarded := min 65535 (l.counters.dupDiscarded + 1) } } }) ∧
      ((∀ q ∈ l.inbox, ¬ (q.seq = seq ∧ q.kind = kind)) →
        (4 ≤ l.inbox.length →
          exec c s = .next { s with link := l.produceReject ⟨.full, seq, false, kind⟩ }) ∧
        (l.inbox.length < 4 →
          exec c s = .next { s with link := { l with
            inbox := l.inbox ++ [{ kind := kind, seq := seq, body := body }] } })))) ∧
  (∀ (s : State) (first next : List Byte), first ≠ [] →
    ∃ t, exec (.hostFrameReceived first) s = .next t ∧
      exec (.hostFrameReceived (first ++ next)) s = exec (.hostFrameReceived next) t) ∧
  (∀ (s : State) (bytes : List Byte), bytes ≠ [] → s.link.framer.buf ≠ [] → 11 ≤ s.link.framer.sinceLast →
    exec (.hostFrameReceived bytes) s = exec (.hostFrameReceived bytes) { s with link := { s.link with
      framer := .hunting
      counters := { s.link.counters with
        gapTimeouts := min 65535 (s.link.counters.gapTimeouts + 1) } } })

/-- R151: a completed frame whose check differs is not acted on: it is counted, and a REJECT with reason CHECK,
SEQ 0, the sequence unknown and kind 0 is produced. A hunting framer reads the whole frame, and one inside the
frame the rest of it. -/
def Obligations.BadChecksAreCountedAndRejected : Prop :=
  ∀ (s : State) (kind seq : Byte) (body : List Byte) (c1 c0 : Byte) (got rest : List Byte), body.length ≤ 60 →
    got ++ rest = syncByte :: checkedBytes kind seq body ++ [c1, c0] → rest ≠ [] →
    s.link.framer.buf = got → s.link.framer.Sound → s.link.framer.sinceLast < 11 →
    [c1, c0] ≠ crcBytes (hostCrc (checkedBytes kind seq body)) →
    exec (.hostFrameReceived rest) s
      = .next { s with link := Link.produceReject ({ s.link with
          framer := .hunting
          counters := { s.link.counters with
            checkFailures := min 65535 (s.link.counters.checkFailures + 1) } }) ⟨.check, 0, true, 0⟩ }

/-- R149, R150: bytes other than SYNC are ignored while hunting; a LEN outside 2 to 62 discards the frame and is
counted, and a 0x5A that fails as LEN is at once the SYNC of a new frame. A gap inside a frame discards the
partial frame and is counted; while hunting there is nothing to time. Neither produces a REJECT. The bytes of a frame
may come in several commands, and every command that carries bytes gives them to the framer alike; a GAP_TIMEOUT then
takes its gap where the framer is inside a frame. How the clock's advances tell the gap is log 12. -/
def Obligations.FramerFaultsAreCounted : Prop :=
  (∀ (s : State) (bs : List Byte) (b : Byte), s.link.framer = .hunting → (∀ x ∈ bs, x ≠ 0x5A) →
    b.toNat < 2 ∨ 62 < b.toNat →
    exec (.lengthFault (bs ++ [0x5A, b])) s = .next { s with link := { s.link with
      framer := if b = 0x5A then ⟨[0x5A], 0xFFFF, 0⟩ else .hunting
      counters := { s.link.counters with
        lengthFaults := min 65535 (s.link.counters.lengthFaults + 1) } } }) ∧
  (∀ (s : State) (bs : List Byte), s.link.framer = .hunting → (∀ x ∈ bs, x ≠ 0x5A) →
    exec (.lengthFault bs) s = .next s) ∧
  (∀ s : State, s.link.framer.buf ≠ [] → 10 ≤ s.link.framer.sinceLast →
    exec (.gapTimeout []) s = .next { s with link := { s.link with
      framer := .hunting
      counters := { s.link.counters with
        gapTimeouts := min 65535 (s.link.counters.gapTimeouts + 1) } } }) ∧
  (∀ (s : State) (len : Byte), s.link.framer = .hunting → 2 ≤ len.toNat → len.toNat ≤ 62 →
    exec (.gapTimeout [0x5A, len]) s = .next { s with link := { s.link with
      counters := { s.link.counters with
        gapTimeouts := min 65535 (s.link.counters.gapTimeouts + 1) } } }) ∧
  (∀ s : State, s.link.framer.buf = [] ∨ s.link.framer.sinceLast < 10 → exec (.gapTimeout []) s = .next s) ∧
  (∀ (s : State) (b : Byte), s.link.framer.buf = [0x5A] → s.link.framer.sinceLast < 11 →
    b.toNat < 2 ∨ 62 < b.toNat →
    exec (.lengthFault [b]) s = .next { s with link := { s.link with
      framer := if b = 0x5A then ⟨[0x5A], 0xFFFF, 0⟩ else .hunting
      counters := { s.link.counters with
        lengthFaults := min 65535 (s.link.counters.lengthFaults + 1) } } }) ∧
  (∀ (s : State) (kind seq : Byte) (body : List Byte) (c1 c0 : Byte) (got more rest : List Byte),
    body.length ≤ 60 → got ++ more ++ rest = syncByte :: checkedBytes kind seq body ++ [c1, c0] →
    more ≠ [] → rest ≠ [] →
    s.link.framer.buf = got → s.link.framer.Sound → s.link.framer.sinceLast < 11 →
    exec (.gapTimeout more) s = .next { s with link := { s.link with
      framer := .hunting
      counters := { s.link.counters with
        gapTimeouts := min 65535 (s.link.counters.gapTimeouts + 1) } } }) ∧
  (∀ (s : State) (bytes : List Byte), bytes ≠ [] →
    ∃ t, exec (.hostFrameReceived bytes) s = .next t ∧ exec (.lengthFault bytes) s = .next t ∧
      exec (.gapTimeout bytes) s = .next (if t.link.framer.buf = [] then t else { t with link := { t.link with
        framer := .hunting
        counters := { t.link.counters with
          gapTimeouts := min 65535 (t.link.counters.gapTimeouts + 1) } } }))

/-- R153: a REJECT joins the output order while fewer than 4 wait, and is dropped and counted while 4 wait; it
leaves when the line goes to it. -/
def Obligations.RejectsWaitInAStoreOfFour : Prop :=
  (∀ (l : Link) (r : Reject),
    let held (m : Link) : Nat := (m.waiting.filter OutItem.isReject).length
    (held l ≤ 4 → held (l.produceReject r) ≤ 4) ∧
    (held l = 4 → l.produceReject r = { l with counters := { l.counters with
      rejectsDropped := min 65535 (l.counters.rejectsDropped + 1) } }) ∧
    (held l < 4 → l.produceReject r = { l with waiting := l.waiting ++ [.reject r] })) ∧
  (∀ (s : State) (r : Reject) (rest : List OutItem), s.link.waiting = .reject r :: rest →
    s.link.helloOwed = none → s.link.processor ≠ .restartReplyOnLine →
    exec .rejectBegin s = .next { s with link := { s.link with
      waiting := rest, hostOut := some (rejectFrame r) } })

/-- R154, R157, R160: an owed HELLO is begun before anything else, with the clock as it stands; then the oldest
waiting reply or reject; beginning a fresh reply frees the processor, or, after a RESTART, leaves the line to
the restart (R159). What is not the first to go does not begin (log 2, log 5). -/
def Obligations.TheArbiterBeginsTheOldestFrame : Prop :=
  (∀ (s : State) (cause : HelloCause), s.link.helloOwed = some cause →
    exec .helloBegin s = .next { s with link := { s.link with
      helloOwed := none, hostOut := some (helloFrame cause s.clock) } } ∧
    exec .replyBegin s = .next s ∧ exec .rejectBegin s = .next s ∧ exec .noticeDelivery s = .next s) ∧
  (∀ s : State, s.link.helloOwed = none →
    exec .helloBegin s = .next s ∧
    (s.link.processor = .restartReplyOnLine →
      exec .replyBegin s = .next s ∧ exec .rejectBegin s = .next s ∧ exec .noticeDelivery s = .next s) ∧
    (s.link.processor ≠ .restartReplyOnLine →
      (∀ fresh frame rest, s.link.waiting = .reply fresh frame :: rest →
        exec .rejectBegin s = .next s ∧
        exec .replyBegin s = .next { s with link := { s.link with
          waiting := rest, hostOut := some frame,
          processor := if fresh = false then s.link.processor
            else if s.link.processor = .restartReplyWaiting then .restartReplyOnLine else .free } }) ∧
      (∀ r rest, s.link.waiting = .reject r :: rest → exec .replyBegin s = .next s)) ∧
    (s.link.waiting = [] → exec .replyBegin s = .next s ∧ exec .rejectBegin s = .next s) ∧
    (s.link.waiting ≠ [] → exec .noticeDelivery s = .next s))

/-! ### The bus engine (06_the_bus_engine.md, 09_diagnostic_modes_and_counters.md) -/

/-- R121, R164: SET_TIMING and SET_MODE are taken with the engine OFFLINE, replace the timing or the mode and
nothing else, and raise no event; in any other state WRONG_STATE; a value outside the coding BAD_VALUE. -/
def Obligations.TimingAndModeAreSetOffline : Prop :=
  (∀ (s : State) (r : Request), s.Takes r → r.kind = 0x03 →
    (∀ rate point, r.body = [rateByte rate, samplePointByte point] →
      (s.engine.state = .offline →
        exec .setTiming s = .next
          ({ s with engine := { s.engine with rate := rate, samplePoint := point } }.answered r
            (.ok [rateByte rate, samplePointByte point]))) ∧
      (s.engine.state ≠ .offline →
        exec .setTiming s = .next (s.answered r (.refused .wrongState)))) ∧
    (∀ b p, r.body = [b, p] → (∀ rate, b ≠ rateByte rate) →
      exec .setTiming s = .next (s.answered r (.badValue 0))) ∧
    (∀ rate p, r.body = [rateByte rate, p] → (∀ point, p ≠ samplePointByte point) →
      exec .setTiming s = .next (s.answered r (.badValue 1)))) ∧
  (∀ (s : State) (r : Request), s.Takes r → r.kind = 0x04 →
    (∀ mode, r.body = [modeByte mode] →
      (s.engine.state = .offline →
        exec .setMode s = .next
          ({ s with engine := { s.engine with mode := mode } }.answered r (.ok [modeByte mode]))) ∧
      (s.engine.state ≠ .offline → exec .setMode s = .next (s.answered r (.refused .wrongState)))) ∧
    (∀ b, r.body = [b] → (∀ mode, b ≠ modeByte mode) →
      exec .setMode s = .next (s.answered r (.badValue 0))))

/-- R117: GO_ONLINE by the engine's state, mode and recovery-owed mark: SYNCING, ACTIVE at once in LOOPBACK,
RECOVERING where recovery is owed or the engine is WITHDRAWN; nothing to do on the bus, and WRONG_STATE while
STOPPING. -/
def Obligations.GoOnlineJoinsTheBus : Prop :=
  ∀ (s : State) (r : Request), s.Takes r → r.kind = 0x05 → r.body = [] →
    let e := s.engine
    let joined (st : EngineState) : Engine :=
      { e with state := st, phase := .quiet, suspensionOwed := false, progress := 0, busStuck := false,
               watchMs := 0 }
    let joins (st : EngineState) : Prop :=
      exec .goOnline s = .next
        ((({ s with engine := joined st }).raise .state
            (.state st e.standing e.recoveryOwed false)).answered r
          (.ok [engineStateByte st, flagByte e.recoveryOwed]))
    (e.state = .offline → e.recoveryOwed = false → e.mode ≠ .loopback → joins .syncing) ∧
    (e.state = .offline → e.recoveryOwed = false → e.mode = .loopback → joins .active) ∧
    (e.state = .offline → e.recoveryOwed = true → joins .recovering) ∧
    (e.state = .withdrawn → joins .recovering) ∧
    (e.state = .syncing ∨ e.state = .active ∨ e.state = .recovering →
      exec .goOnline s = .next
        (s.answered r (.nothingToDo [engineStateByte e.state, flagByte e.recoveryOwed]))) ∧
    (e.state = .stopping → exec .goOnline s = .next (s.answered r (.refused .wrongState)))

/-- R98, R106, R118: GO_OFFLINE by the engine's state: at once when no frame is in progress, else STOPPING. Up to the
clock's second advance after a fault the part's burst may or may not be over, which no command says, and the answer is
one of the two, by a free value (log 6); from then on the burst is over, and it is at once (log 21). -/
def Obligations.GoOfflineLeavesTheBus : Prop :=
  ∀ (s : State) (r : Request), s.Takes r → r.kind = 0x06 → r.body = [] →
    let e := s.engine
    let left : Engine :=
      { e with state := .offline, phase := .quiet, suspensionOwed := false, progress := 0,
               busStuck := false, watchMs := 0 }
    let atOnce (free : Nat) : State :=
      ({ s with engine := left, freeCount := free }.raise .state
          (.state .offline e.standing e.recoveryOwed false)).answered r
        (.ok [engineStateByte .offline, flagByte e.recoveryOwed])
    let stops (free : Nat) : State :=
      ({ s with engine := { e with state := .stopping }, freeCount := free }.raise .state
          (.state .stopping e.standing e.recoveryOwed e.busStuck)).answered r
        (.deferred [engineStateByte .stopping, flagByte e.recoveryOwed])
    (e.state = .active → e.phase = .quiet ∨ e.phase = .gap ∨ e.phase = .delimiter →
      exec .goOffline s = .next (atOnce s.freeCount)) ∧
    (e.state = .active → e.phase = .receiving ∨ e.phase = .sending →
      exec .goOffline s = .next (stops s.freeCount)) ∧
    (e.state = .active → e.inBurst = true →
      exec .goOffline s = .next (atOnce (s.freeCount + 1)) ∨
      exec .goOffline s = .next (stops (s.freeCount + 1))) ∧
    (e.state = .syncing ∨ e.state = .recovering ∨ e.state = .withdrawn →
      exec .goOffline s = .next (atOnce s.freeCount)) ∧
    (e.state = .offline ∨ e.state = .stopping →
      exec .goOffline s = .next
        (s.answered r (.nothingToDo [engineStateByte e.state, flagByte e.recoveryOwed])))

/-- R122, R147: ENGINE_STATUS reports the engine as it stands and changes nothing. -/
def Obligations.EngineStatusChangesNothing : Prop :=
  ∀ (s : State) (r : Request), s.Takes r → r.kind = 0x07 → r.body = [] →
    let e := s.engine
    exec .engineStatus s = .next (s.answered r (.ok
      ([engineStateByte e.state,
        (let worst := max e.txCount e.rxCount
         if worst ≤ 63 then 0 else if worst ≤ 111 then 1 else 2),
        BitVec.ofNat 8 e.txCount, BitVec.ofNat 8 e.rxCount, flagByte e.recoveryOwed,
        BitVec.ofNat 8 e.progress, modeByte e.mode, rateByte e.rate, samplePointByte e.samplePoint,
        flagByte e.busStuck, faultKindByte e.lastFault.kind, directionByte e.lastFault.direction] ++
       (match e.lastFault.tag with
        | some tag => 1 :: tagBytes tag
        | none => [0, 0, 0, 0]) ++
       stampBytes e.lastFault.stamp)))

/-- R161, R171: DIAG_COUNTS reports the seventeen counters as they stood and, with the clear flag, sets all of
them to 0. -/
def Obligations.DiagCountsReportsThenClears : Prop :=
  ∀ (s : State) (r : Request), s.Takes r → r.kind = 0x08 →
    let d := s.diag
    let k := s.link.counters
    let shown : Reply := .ok
      (([d.framesSent, d.framesValid, d.arbitrationLosses, d.coding, d.form, d.check, d.noAck,
         d.bitPassive, d.bitActive, d.unclaimed, d.tagClashes, k.lengthFaults, k.gapTimeouts,
         k.checkFailures, k.rejectsDropped, k.dupResent, k.dupDiscarded].map
          fun n => [BitVec.ofNat 8 (n / 256), BitVec.ofNat 8 n]).flatten)
    (r.body = [0] → exec .diagCounts s = .next (s.answered r shown)) ∧
    (r.body = [1] → exec .diagCounts s = .next
      ({ s with diag := ⟨0, 0, 0, 0, 0, 0, 0, 0, 0, 0, 0⟩,
                link := { s.link with counters := ⟨0, 0, 0, 0, 0, 0⟩ } }.answered r shown)) ∧
    (∀ b, r.body = [b] → b ≠ 0 → b ≠ 1 → exec .diagCounts s = .next (s.answered r (.badValue 0)))

/-- R107, R115, R116: a quiet interval ends SYNCING; in RECOVERING it adds one to the progress, clears the
bus-stuck flag and starts the watch again, and the 64th completes recovery. In the other states no interval is
counted (log 2). -/
def Obligations.QuietIntervalsBringTheEngineBack : Prop :=
  ∀ s : State,
    let e := s.engine
    (e.state = .syncing →
      exec .syncComplete s = .next
        (({ s with engine := { e with state := .active, phase := .quiet, suspensionOwed := false,
                                      progress := 0, busStuck := false, watchMs := 0 } }).raise .state
          (.state .active e.standing e.recoveryOwed false))) ∧
    (e.state ≠ .syncing → exec .syncComplete s = .next s) ∧
    (e.state = .recovering → e.progress + 1 < 64 →
      let u : State := { s with engine := { e with progress := e.progress + 1, busStuck := false,
                                                   watchMs := 0 } }
      exec .recoveryInterval s = .next
        (if e.busStuck = true then
          u.raise .state (.state .recovering e.standing e.recoveryOwed false) else u)) ∧
    (e.state = .recovering → 64 ≤ e.progress + 1 →
      exec .recoveryInterval s = .next
        (({ s with engine := { e with state := .active, phase := .quiet, suspensionOwed := false,
                                      progress := 0, busStuck := false, watchMs := 0, txCount := 0,
                                      rxCount := 0, recoveryOwed := false } }).raise .state
          (.state .active .normal false false))) ∧
    (e.state ≠ .recovering → exec .recoveryInterval s = .next s)

/-- R88, R102, R106, R116, R119, R167: the bus-stuck flag after 1000 ms without a quiet interval, never in LOOPBACK;
a start bit begins a received frame in ACTIVE and ends a suspension; the burst's end takes STOPPING to OFFLINE.
Elsewhere the three do not come about (log 2); that 1000 ms are 1000 advances of the part clock is log 19; that a
start bit taken in a burst's or a gap's phase says that those waits are over is log 7; that one read in the gap ends a
suspension owed is log 26. -/
def Obligations.WatchStartAndStopAreTakenWhereTheyStand : Prop :=
  ∀ s : State,
    let e := s.engine
    (e.state = .syncing ∨ e.state = .recovering → e.mode ≠ .loopback → 1000 ≤ e.watchMs → e.busStuck = false →
      exec .busStuck s = .next (({ s with engine := { e with busStuck := true } }).raise .state
        (.state e.state e.standing e.recoveryOwed true))) ∧
    ((e.state ≠ .syncing ∧ e.state ≠ .recovering) ∨ e.mode = .loopback ∨ e.watchMs < 1000 ∨ e.busStuck = true →
      exec .busStuck s = .next s) ∧
    (e.state = .active → e.mode ≠ .loopback → e.phase ≠ .sending →
      exec .startBitRead s = .next { s with engine :=
        if e.phase = .receiving then e else { e with phase := .receiving, suspensionOwed := false } }) ∧
    (e.state ≠ .active ∨ e.mode = .loopback ∨ e.phase = .sending →
      exec .startBitRead s = .next s) ∧
    (e.state = .stopping → e.inBurst = true →
      exec .stopComplete s = .next
        (({ s with engine := { e with state := .offline, phase := .quiet, suspensionOwed := false,
                                      progress := 0, busStuck := false, watchMs := 0 } }).raise .state
          (.state .offline e.standing e.recoveryOwed false))) ∧
    (e.state ≠ .stopping ∨ e.inBurst = false → exec .stopComplete s = .next s)

/-- R94, R97, R108, R111, R124, R165, R166: a receive fault replaces the last-fault record, adds one to the rx
count in NORMAL mode only, counts its kind, raises BUS_FAULT and then, when the standing changed, STATE, and
begins a burst at the level of the standing before it; in LISTEN no burst is sent. In ACTIVE with no start bit
given before, the start is part of the same command (log 9), the waits before it are over (log 7), and so is
a suspension owed (log 26). Elsewhere no fault is detected (log 2); operands that no fault of a receiver carries stop (log 16). -/
def Obligations.ReceiveFaultsAreTakenInOrder : Prop :=
  (∀ (s : State) (kind : FaultKind) (tag : Option Tag), rxFaultWf kind tag = false →
    exec (.rxFault kind tag) s = .fault .illFormedCommand) ∧
  ∀ (s : State) (kind : FaultKind) (tag : Option Tag),
    rxFaultWf kind tag = true →
    let e := s.engine
    (e.mode ≠ .loopback →
      (e.state = .active ∧ e.phase ≠ .sending) ∨ (e.state = .stopping ∧ e.phase = .receiving) →
      ¬ (e.mode = .listen ∧ kind = .bitActive) →
      let f : Engine :=
        { e with lastFault := ⟨some kind, .receive, tag, s.clock⟩,
                 rxCount := if e.mode = .normal then min 255 (e.rxCount + 1) else e.rxCount,
                 suspensionOwed := false,
                 phase := .burst (e.mode = .normal ∧ e.standing ≠ .restrained) false }
      let u : State := { ({ s with diag := s.diag.countFault kind }).raise .busFault
                           (.busFault kind .receive) with engine := f }
      exec (.rxFault kind tag) s = .next
        (if f.standing ≠ e.standing then
          u.raise .state (.state e.state f.standing e.recoveryOwed e.busStuck) else u)) ∧
    (e.mode = .loopback ∨ (e.mode = .listen ∧ kind = .bitActive) ∨
        ¬ ((e.state = .active ∧ e.phase ≠ .sending) ∨ (e.state = .stopping ∧ e.phase = .receiving)) →
      exec (.rxFault kind tag) s = .next s)

/-! ### Requests on the slot table -/

/-- R5: both masks are replaced, in every state, and nothing else. -/
def Obligations.SetMasksReplacesBothMasks : Prop :=
  ∀ (s : State) (r : Request) (a b : Tag), s.Takes r → r.kind = 0x09 →
    r.body = tagBytes a ++ tagBytes b →
    exec .setMasks s = .next
      ({ s with maskA := a, maskB := b }.answered r (.ok (tagBytes a ++ tagBytes b)))

/-- R3, R15: CONFIG_SLOT is taken on a DISABLED slot; it writes the configuration, neutral values for role NONE
and answer off for SUBSCRIBE, and resets every dynamic field; no other slot changes. -/
def Obligations.ConfigSlotStartsTheSlotAfresh : Prop :=
  ∀ (s : State) (r : Request) (n : SlotNo) (cfg : SlotConfig), s.Takes r → r.kind = 0x0A →
    cfg.interval ≤ 60000 →
    (∀ k, cfg.length = .exact k → k ≤ 16) → (cfg.role = .publish → cfg.length ≠ .any) →
    (∀ k, cfg.retryLimit = .limit k → k ≤ 14) →
    r.body = [slotByte n, roleByte cfg.role] ++ tagBytes cfg.tag ++ [matchByte cfg.mtch, lengthByte cfg.length]
      ++ halfBytes cfg.interval ++ [retryByte cfg.retryLimit, flagByte cfg.answer, flagByte cfg.notify] →
    ((s.slot n).life = .disabled →
      exec .configSlot s = .next
        ((s.setSlot n
            { cfg :=
                if cfg.role = .none then
                  { role := .none, tag := 0, mtch := .exact, length := .exact 0, interval := 0,
                    retryLimit := .limit 0, answer := false, notify := false }
                else { cfg with answer := cfg.answer && cfg.role = .publish }
              life := .disabled, tx := .idle, reasons := ⟨false, false, false⟩, again := false,
              abort := false, retries := 0
              payload := match cfg.role, cfg.length with
                | .publish, .exact k => List.replicate k 0
                | _, _ => []
              seq := 0, stamp := 0, dataState := .empty, freshness := .current, overrun := 0,
              lengthRejects := 0, skipped := 0, timer := .stopped }).answered r (.ok [slotByte n]))) ∧
    ((s.slot n).life = .enabled → exec .configSlot s = .next (s.answered r (.refused .slotEnabled))) ∧
    ((s.slot n).life = .draining → exec .configSlot s = .next (s.answered r (.refused .slotDraining)))

/-- R16: the four checks in their order; then the slot is ENABLED and IDLE with its timer at the full interval,
and nothing else of it changes. -/
def Obligations.EnableSlotChecksThenEnables : Prop :=
  ∀ (s : State) (r : Request) (n : SlotNo), s.Takes r → r.kind = 0x0B → r.body = [slotByte n] →
    let x := s.slot n
    let clashes : Prop := x.cfg.role = .publish ∧
      ∃ m, m ≠ n ∧ (s.slot m).cfg.role = .publish ∧ (s.slot m).life ≠ .disabled ∧
        (s.slot m).cfg.tag = x.cfg.tag
    (x.cfg.role = .none → exec .enableSlot s = .next (s.answered r (.refused .notConfigured))) ∧
    (clashes → exec .enableSlot s = .next (s.answered r (.refused .tagConflict))) ∧
    (x.cfg.role ≠ .none → ¬ clashes →
      (x.life = .enabled →
        exec .enableSlot s = .next (s.answered r (.nothingToDo [slotByte n, 1]))) ∧
      (x.life = .draining →
        exec .enableSlot s = .next (s.answered r (.refused .slotDraining))) ∧
      (x.life = .disabled →
        exec .enableSlot s = .next
          ((s.setSlot n
              { x with life := .enabled, tx := .idle,
                       timer := if x.cfg.interval = 0 then .stopped else .running x.cfg.interval }).answered
            r (.ok [slotByte n, 1]))))

/-- R17: DISABLE_SLOT disables at once a slot that is not ON_BUS, without an event; an ON_BUS slot drains, its
reasons and marks kept. -/
def Obligations.DisableSlotDisablesOrDrains : Prop :=
  ∀ (s : State) (r : Request) (n : SlotNo), s.Takes r → r.kind = 0x0C → r.body = [slotByte n] →
    let x := s.slot n
    (x.life = .enabled → x.tx ≠ .onBus →
      exec .disableSlot s = .next
        ((s.setSlot n
            { x with life := .disabled, tx := .idle, reasons := ⟨false, false, false⟩, again := false,
                     abort := false, retries := 0, timer := .stopped }).answered r
          (.ok [slotByte n, 0]))) ∧
    (x.life = .enabled → x.tx = .onBus →
      exec .disableSlot s = .next
        ((s.setSlot n { x with life := .draining, timer := .stopped }).answered r
          (.deferred [slotByte n, 2]))) ∧
    (x.life = .disabled → exec .disableSlot s = .next (s.answered r (.nothingToDo [slotByte n, 0]))) ∧
    (x.life = .draining → exec .disableSlot s = .next (s.answered r (.nothingToDo [slotByte n, 2])))

/-- R18, R22: the checks in their order; then the payload is replaced whole, and with the send flag SEND is
added, or the again mark set; the reply is OK whatever the slot was doing. The transmit buffer is not touched. -/
def Obligations.WriteSlotReplacesThePayload : Prop :=
  ∀ (s : State) (r : Request) (n : SlotNo) (send : Bool) (data : List Byte), s.Takes r → r.kind = 0x0D →
    data.length ≤ 16 →
    r.body = [slotByte n, flagByte send, BitVec.ofNat 8 data.length] ++ data →
    let x := s.slot n
    let done (y : Slot) : Prop := exec .writeSlot s = .next
      ((s.setSlot n y).answered r
        (.ok [slotByte n, txStateByte y.tx, flagByte y.again]))
    (x.cfg.role ≠ .publish → exec .writeSlot s = .next (s.answered r (.refused .wrongRole))) ∧
    (x.cfg.role = .publish →
      (x.cfg.length ≠ .exact data.length →
        exec .writeSlot s = .next (s.answered r (.refused .lengthMismatch))) ∧
      (x.cfg.length = .exact data.length →
        (x.life = .draining → exec .writeSlot s = .next (s.answered r (.refused .slotDraining))) ∧
        (x.life = .disabled → send = true →
          exec .writeSlot s = .next (s.answered r (.refused .slotDisabled))) ∧
        (x.life ≠ .draining → send = false → done { x with payload := data }) ∧
        (x.life = .enabled → send = true →
          done (match x.tx with
            | .onBus => { x with payload := data, again := true }
            | _ => { x with payload := data, tx := .pending,
                            reasons := { x.reasons with send := true } }))))

/-- R19, R20, R147: READ_SLOT reports the record as it stood, in any life; with the consume flag a subscribe
slot's FRESH becomes SEEN and its overrun count 0, and nothing else changes. A timer whose expiry is due and not
yet taken shows 1 ms (log 3). -/
def Obligations.ReadSlotReportsThenConsumes : Prop :=
  ∀ (s : State) (r : Request) (n : SlotNo) (consume : Bool), s.Takes r → r.kind = 0x0E →
    r.body = [slotByte n, flagByte consume] →
    let x := s.slot n
    let shown : List Byte :=
      [BitVec.ofNat 8 n.val, roleByte x.cfg.role] ++ tagBytes x.cfg.tag
        ++ [matchByte x.cfg.mtch, lengthByte x.cfg.length,
            BitVec.ofNat 8 (x.cfg.interval / 256), BitVec.ofNat 8 x.cfg.interval,
            retryByte x.cfg.retryLimit, flagByte x.cfg.answer, flagByte x.cfg.notify,
            lifeByte x.life, txStateByte x.tx,
            BitVec.ofNat 8 (x.reasons.send.toNat + 2 * x.reasons.answer.toNat + 4 * x.reasons.query.toNat),
            flagByte x.again, flagByte x.abort, BitVec.ofNat 8 x.retries, x.seq]
        ++ stampBytes x.stamp
        ++ [dataStateByte x.dataState, freshnessByte x.freshness, BitVec.ofNat 8 x.overrun,
            BitVec.ofNat 8 x.lengthRejects, BitVec.ofNat 8 x.skipped]
        ++ halfBytes (timerMs x.timer) ++ [BitVec.ofNat 8 x.payload.length] ++ x.payload
    (consume = true → x.cfg.role = .subscribe →
      exec .readSlot s = .next
        ((s.setSlot n
            { x with dataState := if x.dataState = .empty then .empty else .seen, overrun := 0 }).answered r
          (.ok shown))) ∧
    (consume = false ∨ x.cfg.role ≠ .subscribe →
      exec .readSlot s = .next (s.answered r (.ok shown)))

/-- R48, R49: SEND_SLOT on publish slots and QUERY_SLOT on subscribe slots: the checks in their order, then the
reason or the again mark by the slot's transmit state; nothing else of the slot changes. That the reply of an ON_BUS
slot shows no abort mark is the model's choice (log 23), and that a QUERY_SLOT taken after a store finds the slot IDLE
and makes it PENDING is too (log 22). -/
def Obligations.SendAndQueryLeaveAReason : Prop :=
  ∀ (s : State) (r : Request) (n : SlotNo) (send : Bool), s.Takes r →
    r.kind = (if send then 0x0F else 0x10) → r.body = [slotByte n] →
    let c : Instr := if send then .sendSlot else .querySlot
    let x := s.slot n
    let added : Slot := { x with
      tx := .pending
      reasons := if send then { x.reasons with send := true } else { x.reasons with query := true } }
    (x.life = .disabled → exec c s = .next (s.answered r (.refused .slotDisabled))) ∧
    (x.life = .draining → exec c s = .next (s.answered r (.refused .slotDraining))) ∧
    (x.life = .enabled →
      (x.cfg.role ≠ (if send then .publish else .subscribe) →
        exec c s = .next (s.answered r (.refused .wrongRole))) ∧
      (x.cfg.role = (if send then .publish else .subscribe) →
        (x.tx = .idle → exec c s = .next
          ((s.setSlot n added).answered r (.ok [slotByte n, 1, flagByte x.again]))) ∧
        (x.tx = .pending → exec c s = .next
          ((s.setSlot n added).answered r
            (.nothingToDo [slotByte n, 1, flagByte x.again]))) ∧
        (x.tx = .onBus → x.again = false → exec c s = .next
          ((s.setSlot n { x with again := true }).answered r
            (.ok [slotByte n, 2, 1]))) ∧
        (x.tx = .onBus → x.again = true → exec c s = .next
          (s.answered r (.nothingToDo [slotByte n, 2, 1])))))

/-- R50: ABORT_SLOT by the slot's life and transmit state; no event is raised, and the timer is not touched. -/
def Obligations.AbortSlotGivesUpWhatWaits : Prop :=
  ∀ (s : State) (r : Request) (n : SlotNo), s.Takes r → r.kind = 0x11 → r.body = [slotByte n] →
    let x := s.slot n
    (x.life ≠ .enabled ∨ x.tx = .idle →
      exec .abortSlot s = .next
        (s.answered r (.nothingToDo [slotByte n, txStateByte x.tx, flagByte x.abort]))) ∧
    (x.life = .enabled → x.tx = .pending →
      exec .abortSlot s = .next
        ((s.setSlot n
            { x with tx := .idle, reasons := ⟨false, false, false⟩, again := false, abort := false,
                     retries := 0 }).answered r (.ok [slotByte n, 0, 0]))) ∧
    (x.life = .enabled → x.tx = .onBus → x.abort = false →
      exec .abortSlot s = .next
        ((s.setSlot n { x with abort := true }).answered r
          (.deferred [slotByte n, 2, 1]))) ∧
    (x.life = .enabled → x.tx = .onBus → x.abort = true →
      exec .abortSlot s = .next (s.answered r (.nothingToDo [slotByte n, 2, 1])))

/-! ### The catch queue (04_the_catch_queue.md) -/

/-- R82: SET_CATCH replaces the enable, the mask and the pattern, flushes when asked to, and reports what is in
force. -/
def Obligations.SetCatchReplacesTheFilter : Prop :=
  ∀ (s : State) (r : Request) (enable flush : Bool) (mask pattern : Tag), s.Takes r → r.kind = 0x12 →
    r.body = [flagByte enable] ++ tagBytes mask ++ tagBytes pattern ++ [flagByte flush] →
    let kept : List CatchRecord := if flush then [] else s.catchQ.queue
    let dropped : Nat := if flush then 0 else s.catchQ.overflow
    exec .setCatch s = .next
      ({ s with catchQ := { enable := enable, mask := mask, pattern := pattern, queue := kept,
                            overflow := dropped } }.answered r
        (.ok ([flagByte enable] ++ tagBytes mask ++ tagBytes pattern
          ++ [BitVec.ofNat 8 kept.length] ++ halfBytes dropped)))

/-- R80, R81: TAKE_CATCH reports the oldest record, the fill and the overflow count, and removes the record unless
it peeks; an empty queue refuses it. -/
def Obligations.TakeCatchReportsTheOldestRecord : Prop :=
  ∀ (s : State) (r : Request) (peek : Bool), s.Takes r → r.kind = 0x13 → r.body = [flagByte peek] →
    (s.catchQ.queue = [] → exec .takeCatch s = .next (s.answered r (.refused .empty))) ∧
    (∀ x rest, s.catchQ.queue = x :: rest →
      let fill : Nat := if peek then rest.length + 1 else rest.length
      exec .takeCatch s = .next
        ({ s with catchQ := { s.catchQ with queue := if peek then x :: rest else rest } }.answered r
          (.ok (tagBytes x.frame.tag ++
            (match x.frame.body with
             | .publish data => [0, BitVec.ofNat 8 data.length]
             | .query => [1, 0]) ++
            stampBytes x.stamp ++ [BitVec.ofNat 8 fill] ++ halfBytes s.catchQ.overflow ++
            (match x.frame.body with
             | .publish data => data
             | .query => [])))))

/-- R37, R38, R77, R78, R79: a frame that no slot claimed: past the filter it joins the queue while fewer than 8
records wait and is dropped and counted else; the filter failed, it is counted unclaimed, without an event. -/
def Obligations.UnclaimedFramesAreCaughtDroppedOrCounted : Prop :=
  ∀ (s : State) (f : BusFrame),
    let passes : Prop := s.catchQ.enable = true ∧ f.tag &&& s.catchQ.mask = s.catchQ.pattern &&& s.catchQ.mask
    let kind : FrameKind := frameKind f
    (passes → s.catchQ.queue.length < 8 →
      s.unclaimed f =
        ({ s with catchQ := { s.catchQ with queue := s.catchQ.queue ++ [CatchRecord.mk f s.clock] } }).raise .arrival
          (.arrival (s.catchQ.queue.length + 1) f.tag kind)) ∧
    (passes → 8 ≤ s.catchQ.queue.length →
      s.unclaimed f =
        ({ s with catchQ := { s.catchQ with overflow := min 65535 (s.catchQ.overflow + 1) } }).raise
          .overflow (.overflow (min 65535 (s.catchQ.overflow + 1)) f.tag kind)) ∧
    (¬ passes →
      s.unclaimed f =
        { s with diag := { s.diag with unclaimed := min 65535 (s.diag.unclaimed + 1) } })

/-! ### Notices (07_notices.md) -/

/-- R126, R127, R129, R130: an event leaves no trace when its enable is off; else it makes a pending entry with
count 1 and the clock's reading, or goes into its pair's pending entry, whose count goes up to 255 and whose
detail it replaces; every other pair and every outstanding entry stays. -/
def Obligations.EventsFoldIntoOnePendingEntry : Prop :=
  ∀ (s : State) (p : Pair) (d : Detail), keyedWf s.notices.pending = true →
    let enabled : Bool := match p with
      | .state => s.notices.stateEnable
      | .tagClash => s.notices.tagClashEnable
      | .busFault => s.notices.busFaultEnable
      | .overflow => s.notices.catchEnable
      | .arrival => s.notices.catchEnable
      | .slot _ .drained => true
      | .slot n _ => (s.slot n).cfg.notify
    (enabled = false → s.raise p d = s) ∧
    (enabled = true → ∃ pend,
      s.raise p d = { s with notices := { s.notices with pending := pend } } ∧
      keyedWf pend = true ∧
      (∀ q, q ≠ p → keyedGet q pend = keyedGet q s.notices.pending) ∧
      (keyedGet p s.notices.pending = none → keyedGet p pend = some ⟨1, s.clock, d⟩) ∧
      (∀ e, keyedGet p s.notices.pending = some e →
        keyedGet p pend = some ⟨min 255 (e.count + 1), e.firstStamp, d⟩))

/-- R132 to R135, R148, R157: when the line goes to the notice unit, the highest-ranked pending entry whose pair
has no outstanding one is sent under the first free number from the counter on, and becomes outstanding as it
was; else nothing is sent (log 2). -/
def Obligations.DeliverySendsTheHighestRankedEntry : Prop :=
  ∀ s : State, s.notices.Sound →
    s.link.helloOwed = none → s.link.waiting = [] → s.link.processor ≠ .restartReplyOnLine →
    let nt := s.notices
    let eligible (p : Pair) (e : Entry) : Prop :=
      (p, e) ∈ nt.pending ∧ keyedGet p nt.outstanding = none
    (nt.gate = true → nt.outstanding.length < nt.window →
      ∀ p e, eligible p e → (∀ q e', eligible q e' → p.rank ≤ q.rank) →
      ∃ (k : Nat) (out : List (Pair × Numbered)),
        let number : Byte := nt.nextNumber + BitVec.ofNat 8 k
        k < 8 ∧ (∀ x ∈ nt.outstanding, x.2.number ≠ number) ∧
        (∀ j, j < k → ∃ x ∈ nt.outstanding, x.2.number = nt.nextNumber + BitVec.ofNat 8 j) ∧
        keyedGet p out = some ⟨e, number⟩ ∧
        (∀ q, q ≠ p → keyedGet q out = keyedGet q nt.outstanding) ∧
        exec .noticeDelivery s = .next { s with
          notices := { nt with pending := nt.pending.filter (fun x : Pair × Entry => x.1 ≠ p), outstanding := out,
                               nextNumber := number + 1 }
          link := { s.link with hostOut := some (noticeFrame p ⟨e, number⟩) } }) ∧
    (nt.gate = false ∨ nt.window ≤ nt.outstanding.length ∨ (∀ p e, ¬ eligible p e) →
      exec .noticeDelivery s = .next s)

/-- R137, R138: NOTICE_CONTROL replaces the gate and the four enables, and writes the notify field of the slot
it names, in any life; a slot of role NONE refuses it whole. -/
def Obligations.NoticeControlSetsGateAndEnables : Prop :=
  ∀ (s : State) (r : Request) (g st tc bf c y : Bool) (slot : Option SlotNo), s.Takes r → r.kind = 0x14 →
    r.body = [flagByte g, flagByte st, flagByte tc, flagByte bf, flagByte c,
      (match slot with
       | some n => slotByte n
       | none => 0xFF), flagByte y] →
    let nt : Notices := { s.notices with gate := g, stateEnable := st, tagClashEnable := tc,
                                         busFaultEnable := bf, catchEnable := c }
    let shown (notify : Byte) : Reply := .ok
      [flagByte g, flagByte st, flagByte tc, flagByte bf, flagByte c, BitVec.ofNat 8 nt.window,
       BitVec.ofNat 8 nt.outstanding.length, BitVec.ofNat 8 nt.pending.length, notify]
    (slot = none → exec .noticeControl s = .next ({ s with notices := nt }.answered r (shown 0xFF))) ∧
    (∀ n, slot = some n →
      ((s.slot n).cfg.role = .none →
        exec .noticeControl s = .next (s.answered r (.refused .notConfigured))) ∧
      ((s.slot n).cfg.role ≠ .none →
        exec .noticeControl s = .next
          ((({ s with notices := nt }).setSlot n
              { s.slot n with cfg := { (s.slot n).cfg with notify := y } }).answered r
            (shown (flagByte y)))))

/-- R139: ACK_NOTICES sets the window, unless UNCHANGED, and removes exactly the outstanding entries whose
numbers it names; a number held by none is ignored. -/
def Obligations.AckNoticesRemovesByNumber : Prop :=
  ∀ (s : State) (r : Request) (w : Byte) (numbers : List Byte), s.Takes r → r.kind = 0x15 →
    1 ≤ numbers.length → numbers.length ≤ 8 → w.toNat ≤ 8 ∨ w = 0xFF → r.body = w :: numbers →
    let window : Nat := if w = 0xFF then s.notices.window else w.toNat
    let left := s.notices.outstanding.filter (fun x : Pair × Numbered => x.2.number ∉ numbers)
    exec .ackNotices s = .next
      ({ s with notices := { s.notices with window := window, outstanding := left } }.answered r
        (.ok [BitVec.ofNat 8 (s.notices.outstanding.filter (fun x : Pair × Numbered => x.2.number ∈ numbers)).length,
              BitVec.ofNat 8 window, BitVec.ofNat 8 left.length,
              BitVec.ofNat 8 s.notices.pending.length]))

/-- R140: RESYNC_NOTICES makes every outstanding entry pending, merged with its pair's pending entry where there
is one; gate, window, enables and the next number stay. -/
def Obligations.ResyncReturnsEveryOutstandingEntry : Prop :=
  ∀ (s : State) (r : Request), s.notices.Sound → s.Takes r → r.kind = 0x16 → r.body = [] →
    ∃ pend : List (Pair × Entry),
      exec .resyncNotices s = .next
        ({ s with notices := { s.notices with pending := pend, outstanding := [] } }.answered r
          (.ok [BitVec.ofNat 8 s.notices.outstanding.length, BitVec.ofNat 8 s.notices.window,
                BitVec.ofNat 8 pend.length])) ∧
      keyedWf pend = true ∧
      ∀ p, keyedGet p pend =
        match keyedGet p s.notices.outstanding, keyedGet p s.notices.pending with
        | none, x => x
        | some o, none => some o.entry
        | some o, some q =>
          some ⟨min 255 (o.entry.count + q.count), o.entry.firstStamp, q.detail⟩

/-! ### Acceptance (02_acceptance_and_reception.md) -/

/-- R25, R39, R104, R111, R169: a valid frame counts as received; in NORMAL mode it takes one off the rx count;
acceptance takes it whole; in STOPPING the engine then goes OFFLINE; STATE is raised when the state or the
standing changed. Where the engine does not receive the frame goes past unseen. In ACTIVE with no start bit
given before, the start is part of the same command (log 9) and ends a suspension owed (log 26). In ACTIVE while the part is sending, and in STOPPING
while it receives nothing, no frame can end valid for it as receiver, and the command changes nothing (log 2). A
payload that no frame holds stops (log 16). -/
def Obligations.ValidFramesAreAccountedAndAccepted : Prop :=
  (∀ (s : State) (f : BusFrame), f.wf = false → exec (.frameEnd f) s = .fault .illFormedCommand) ∧
  ∀ (s : State) (f : BusFrame), f.wf = true →
    let e := s.engine
    let x : State := ({ s with diag := { s.diag with
      framesValid := min 65535 (s.diag.framesValid + 1) } }).accept f none
    let heard : Engine := { e with
      rxCount := if e.mode = .normal then e.rxCount - 1 else e.rxCount
      suspensionOwed := false, phase := .gap }
    (e.mode ≠ .loopback → e.state = .active → e.phase ≠ .sending →
      exec (.frameEnd f) s = .next
        (if heard.standing ≠ e.standing then
          ({ x with engine := heard }).raise .state
            (.state .active heard.standing e.recoveryOwed e.busStuck)
         else { x with engine := heard })) ∧
    (e.mode ≠ .loopback → e.state = .stopping → e.phase = .receiving →
      exec (.frameEnd f) s = .next
        (({ x with engine := { heard with state := .offline, phase := .quiet, progress := 0,
                                          busStuck := false, watchMs := 0 } }).raise .state
          (.state .offline heard.standing e.recoveryOwed false))) ∧
    (e.mode = .loopback ∨
        ¬ ((e.state = .active ∧ e.phase ≠ .sending) ∨ (e.state = .stopping ∧ e.phase = .receiving)) →
      exec (.frameEnd f) s = .next s)

/-- R28 to R33: the fate of a PUBLISH frame: a clash with an ENABLED or DRAINING publish slot of exactly its tag
(the sender of a looped frame apart) stops it; else the first matching ENABLED subscribe slot claims it, and
stores it or refuses its length; else no slot has it. -/
def Obligations.PublishFramesMeetOneFate : Prop :=
  ∀ (s : State) (tag : Tag) (data : List Byte) (sender : Option SlotNo),
    let f : BusFrame := { tag := tag, body := .publish data }
    let clashes (n : SlotNo) : Prop := sender ≠ some n ∧ (s.slot n).cfg.role = .publish ∧
      (s.slot n).life ≠ .disabled ∧ (s.slot n).cfg.tag = tag
    let claims (n : SlotNo) : Prop := (s.slot n).cfg.role = .subscribe ∧ (s.slot n).life = .enabled ∧
      (match (s.slot n).cfg.mtch with
       | .exact => tag = (s.slot n).cfg.tag
       | .maskA => tag &&& s.maskA = (s.slot n).cfg.tag &&& s.maskA
       | .maskB => tag &&& s.maskB = (s.slot n).cfg.tag &&& s.maskB)
    (∀ n, clashes n → (∀ m, m < n → ¬ clashes m) →
      s.accept f sender =
        ({ s with diag := { s.diag with tagClashes := min 65535 (s.diag.tagClashes + 1) } }).raise
          .tagClash (.tagClash tag n)) ∧
    ((∀ n, ¬ clashes n) →
      (∀ n, claims n → (∀ m, m < n → ¬ claims m) →
        let x := s.slot n
        (x.cfg.length = .any ∨ x.cfg.length = .exact data.length →
          s.accept f sender =
            (s.setSlot n
                { x with
                  payload := data
                  seq := x.seq + 1
                  stamp := if s.clock = 0 then 1 else s.clock
                  overrun := if x.dataState = .fresh then min 255 (x.overrun + 1) else x.overrun
                  dataState := .fresh
                  freshness := .current
                  timer := if x.cfg.interval = 0 then .stopped else .running x.cfg.interval
                  retries := if x.reasons.query = true ∧ x.tx ≠ .onBus then 0 else x.retries
                  reasons := if x.tx = .onBus then x.reasons else { x.reasons with query := false }
                  tx := if x.reasons.query = true ∧ x.tx ≠ .onBus ∧ x.reasons.send = false
                          ∧ x.reasons.answer = false then .idle else x.tx }).raise
              (.slot n .received) (.received tag data.length (x.seq + 1))) ∧
        (x.cfg.length ≠ .any → x.cfg.length ≠ .exact data.length →
          s.accept f sender =
            (s.setSlot n
                { x with lengthRejects := min 255 (x.lengthRejects + 1) }))) ∧
      ((∀ n, ¬ claims n) → s.accept f sender = s.unclaimed f))

/-- R34, R35, R36: the fate of a QUERY frame: the first matching ENABLED publish slot claims it and, with its
answer field on, adds ANSWER by its transmit state, else raises QUERY_SEEN; else no slot has it. -/
def Obligations.QueryFramesMeetOneFate : Prop :=
  ∀ (s : State) (tag : Tag) (sender : Option SlotNo),
    let f : BusFrame := { tag := tag, body := .query }
    let claims (n : SlotNo) : Prop := (s.slot n).cfg.role = .publish ∧ (s.slot n).life = .enabled ∧
      (match (s.slot n).cfg.mtch with
       | .exact => tag = (s.slot n).cfg.tag
       | .maskA => tag &&& s.maskA = (s.slot n).cfg.tag &&& s.maskA
       | .maskB => tag &&& s.maskB = (s.slot n).cfg.tag &&& s.maskB)
    (∀ n, claims n → (∀ m, m < n → ¬ claims m) →
      let x := s.slot n
      (x.cfg.answer = true → x.tx ≠ .onBus →
        s.accept f sender =
          (s.setSlot n
              { x with tx := .pending, reasons := { x.reasons with answer := true } })) ∧
      (x.cfg.answer = false →
        s.accept f sender = s.raise (.slot n .querySeen) (.querySeen tag))) ∧
    ((∀ n, ¬ claims n) → s.accept f sender = s.unclaimed f)

/-! ### Transmission (03_transmission.md) -/

/-- R54, R55, R56: at an opportunity the ENABLED and PENDING slot of the lowest tag, PUBLISH before QUERY at
equal tag and the lowest number at equal kind, becomes ON_BUS with its frame in the buffer; without an
opportunity or a candidate nothing happens. That the bit times of gap, delimiter and suspension are over is
what the command says by coming (log 7). -/
def Obligations.SelectionTakesTheBestCandidate : Prop :=
  ∀ s : State,
    let e := s.engine
    let waits (n : SlotNo) : Prop := (s.slot n).life = .enabled ∧ (s.slot n).tx = .pending
    let kindRank (n : SlotNo) : Nat := if (s.slot n).cfg.role = .publish then 0 else 1
    let before (m n : SlotNo) : Prop :=
      (s.slot m).cfg.tag.toNat < (s.slot n).cfg.tag.toNat ∨
      ((s.slot m).cfg.tag = (s.slot n).cfg.tag ∧
        (kindRank m < kindRank n ∨ (kindRank m = kindRank n ∧ m < n)))
    let stands : Prop := e.state = .active ∧ e.mode ≠ .listen ∧ e.phase ≠ .receiving ∧
      e.phase ≠ .sending ∧ s.txBuffer = none
    (stands → ∀ n, waits n → (∀ m, waits m → m ≠ n → before n m) →
      exec .selection s = .next { s with
        slots := (s.setSlot n { s.slot n with tx := .onBus }).slots
        txBuffer := some ⟨n, ⟨(s.slot n).cfg.tag,
          if (s.slot n).cfg.role = .publish then .publish (s.slot n).payload else .query⟩⟩
        engine := { e with phase := .sending, suspensionOwed := false } }) ∧
    (stands → (∀ n, ¬ waits n) → exec .selection s = .next s) ∧
    (¬ stands → exec .selection s = .next s)

/-- R65 to R69: how the end of a frame settles a slot whose outcome has been taken: DRAINING first, then the
abort mark, then the again mark; with neither, PENDING if the outcome left it reasons and IDLE if not. -/
def Obligations.FrameEndSettlesLifeAndMarks : Prop :=
  ∀ x : Slot,
    let empty : Reasons := ⟨false, false, false⟩
    (x.life = .draining →
      x.endFrame = { x with life := .disabled, tx := .idle, reasons := empty, again := false,
                            abort := false, retries := 0, timer := .stopped }) ∧
    (x.life = .enabled → x.abort = true →
      x.endFrame = { x with tx := .idle, reasons := empty, again := false, abort := false, retries := 0 }) ∧
    (x.life = .enabled → x.abort = false → x.again = true →
      x.endFrame = { x with
        tx := .pending, again := false,
        reasons := if x.cfg.role = .publish then { x.reasons with send := true }
          else { x.reasons with query := true } }) ∧
    (x.life = .enabled → x.abort = false → x.again = false →
      x.endFrame = { x with tx := if x.reasons = empty then .idle else .pending })

/-- R59, R66, R109, R110, R168: the part's frame, where it is with the engine (log 2), is Sent: reasons cleared, retries 0, for PUBLISH the sequence
and the stamp; SENT, then DRAINED for a DRAINING slot; the marks; the buffer emptied; then the engine's account,
one off the tx count in NORMAL mode and a suspension owed in RESTRAINED standing, or OFFLINE from STOPPING. In
LOOPBACK the frame then reaches acceptance (order: log 13). -/
def Obligations.SentFramesSettleSlotThenEngine : Prop :=
  (∀ s : State, s.txBuffer = none → exec .txSent s = .next s) ∧
  ∀ (s : State) (rec : TxRecord), s.txBuffer = some rec →
    let e := s.engine
    let n := rec.slot
    let x := s.slot n
    let pub : Bool := frameKind rec.frame = .publish
    let y : Slot := { x with
      reasons := ⟨false, false, false⟩, retries := 0
      seq := if pub then x.seq + 1 else x.seq
      stamp := if pub then (if s.clock = 0 then 1 else s.clock) else x.stamp }
    let u := s.raise (.slot n .sent)
      (.sent (frameKind rec.frame) x.reasons (if pub then y.seq else 0) x.retries)
    let v := if x.life = .draining then u.raise (.slot n .drained) (.drained .sent) else u
    let w : State := { v with
      slots := (s.setSlot n y.endFrame).slots, txBuffer := none
      diag := { s.diag with framesSent := min 65535 (s.diag.framesSent + 1) } }
    let f : Engine := { e with
      txCount := if e.mode = .normal then e.txCount - 1 else e.txCount, phase := .gap }
    let owing : Engine := { f with suspensionOwed := f.standing = .restrained }
    let account : State :=
      if e.state = .stopping then
        ({ w with engine := { f with state := .offline, phase := .quiet, suspensionOwed := false,
                                     progress := 0, busStuck := false, watchMs := 0 } }).raise .state
          (.state .offline f.standing e.recoveryOwed false)
      else if f.standing ≠ e.standing then
        ({ w with engine := owing }).raise .state (.state e.state f.standing e.recoveryOwed e.busStuck)
      else { w with engine := owing }
    (e.state = .active ∨ e.state = .stopping → e.phase = .sending →
      (e.mode ≠ .loopback → exec .txSent s = .next account) ∧
      (e.mode = .loopback → exec .txSent s = .next
        (({ account with diag := { account.diag with
            framesValid := min 65535 (account.diag.framesValid + 1) } }).accept rec.frame (some n)))) ∧
    (e.phase ≠ .sending → exec .txSent s = .next s)

/-- R60, R66, R67, R92, R109: the part's frame is Lost: reasons and retries stay, the marks are settled,
SEND_FAILED with ABORTED is raised for a frame given up under an abort mark or a disable, DRAINED for a DRAINING
slot; the loss is counted, and the engine goes on as a receiver. Where no frame of the part is with the engine in
NORMAL mode there is no loss (log 2). -/
def Obligations.LostFramesWaitAgain : Prop :=
  (∀ s : State, s.txBuffer = none → exec .txLost s = .next s) ∧
  ∀ (s : State) (rec : TxRecord), s.txBuffer = some rec →
    let e := s.engine
    let n := rec.slot
    let x := s.slot n
    let failed := s.raise (.slot n .sendFailed)
      (.sendFailed .aborted (frameKind rec.frame) x.reasons x.retries)
    let v := if x.life = .draining then failed.raise (.slot n .drained) (.drained .lost)
      else if x.abort = true then failed else s
    (e.state = .active ∨ e.state = .stopping → e.phase = .sending → e.mode = .normal →
      exec .txLost s = .next { v with
        slots := (s.setSlot n x.endFrame).slots, txBuffer := none
        diag := { s.diag with arbitrationLosses := min 65535 (s.diag.arbitrationLosses + 1) }
        engine := { e with phase := .receiving } }) ∧
    (e.phase ≠ .sending ∨ e.mode ≠ .normal → exec .txLost s = .next s)

/-- R61 to R67, R109, R110, R113: the part's frame is Faulted: one more retry used, or, above the limit,
SEND_FAILED with RETRIES and the reasons given up; the marks; then the engine's account: the record, 6 on the tx
count (0 for a NO_ACK met in RESTRAINED standing), the counter of the kind, BUS_FAULT, withdrawal at 224, and
STATE when something it carries changed. Where no frame of the part is with the engine in NORMAL mode there is no
fault (log 2); operands that no fault of a transmitter carries stop (log 16). -/
def Obligations.FaultedFramesRetryExhaustOrWithdraw : Prop :=
  (∀ (s : State) (kind : FaultKind) (afterTag : Bool), txFaultWf kind afterTag = false →
    exec (.txFaulted kind afterTag) s = .fault .illFormedCommand) ∧
  (∀ (s : State) (kind : FaultKind) (afterTag : Bool), txFaultWf kind afterTag = true → s.txBuffer = none →
    exec (.txFaulted kind afterTag) s = .next s) ∧
  ∀ (s : State) (rec : TxRecord) (kind : FaultKind) (afterTag : Bool), s.txBuffer = some rec →
    txFaultWf kind afterTag = true →
    let e := s.engine
    let n := rec.slot
    let x := s.slot n
    let exhausted : Bool := match x.cfg.retryLimit with
      | .limit k => k < x.retries + 1
      | .unlimited => false
    let y : Slot :=
      if exhausted then { x with reasons := ⟨false, false, false⟩, retries := 0 }
      else { x with retries := min 255 (x.retries + 1) }
    let aborted := s.raise (.slot n .sendFailed)
      (.sendFailed .aborted (frameKind rec.frame) x.reasons y.retries)
    let u :=
      if exhausted then s.raise (.slot n .sendFailed)
        (.sendFailed .retries (frameKind rec.frame) x.reasons (x.retries + 1))
      else if x.life = .draining ∨ x.abort = true then aborted else s
    let v := if x.life = .draining then
        u.raise (.slot n .drained) (.drained (if exhausted then .exhausted else .faulted)) else u
    let w : State := ({ v with
      slots := (s.setSlot n y.endFrame).slots, txBuffer := none, diag := s.diag.countFault kind }).raise
        .busFault (.busFault kind .transmit)
    let f : Engine := { e with
      lastFault := ⟨some kind, .transmit, if afterTag then some rec.frame.tag else none, s.clock⟩
      txCount := min 255 (e.txCount + if kind = .noAck ∧ e.standing = .restrained then 0 else 6)
      phase := .burst (e.standing ≠ .restrained) false }
    (e.state = .active ∨ e.state = .stopping → e.phase = .sending → e.mode = .normal →
      (f.txCount < 224 →
        let g : Engine := { f with suspensionOwed := f.standing = .restrained }
        exec (.txFaulted kind afterTag) s = .next
          (if f.standing ≠ e.standing then
            ({ w with engine := g }).raise .state
              (.state e.state f.standing e.recoveryOwed e.busStuck)
           else { w with engine := g })) ∧
      (224 ≤ f.txCount →
        let st : EngineState := if e.state = .stopping then .offline else .withdrawn
        exec (.txFaulted kind afterTag) s = .next
          (({ w with engine := { f with state := st, recoveryOwed := true, phase := .quiet,
                                        suspensionOwed := false, progress := 0, busStuck := false,
                                        watchMs := 0 } }).raise .state
            (.state st f.standing true false)))) ∧
    (e.phase ≠ .sending ∨ e.mode ≠ .normal → exec (.txFaulted kind afterTag) s = .next s)

/-! ### Timers and the part clock -/

/-- R13, R41, R52: a period expiry reloads the timer and adds SEND, sets the again mark, or counts a skipped
period, by the slot's transmit state and reasons; a deadline expiry makes the slot STALE, stops the timer and
raises STALE. An expiry is due when the clock's last advance brought the count to 0 (log 3); where none is due
none is taken (log 2). -/
def Obligations.TimerExpiriesActOnTheSlot : Prop :=
  ∀ (s : State) (n : SlotNo),
    let x := s.slot n
    let reloaded : Slot := { x with
      timer := if x.cfg.interval = 0 then .stopped else .running x.cfg.interval }
    let skip : Slot := { reloaded with skipped := min 255 (x.skipped + 1) }
    let sends : Slot := { reloaded with tx := .pending, reasons := { x.reasons with send := true } }
    let becomes (y : Slot) : Prop :=
      exec (.periodExpiry n) s = .next (s.setSlot n y)
    (x.life = .enabled → x.timer = .due →
      (x.cfg.role = .publish →
        (x.tx = .idle → becomes sends) ∧
        (x.tx = .pending → x.reasons.send = true → becomes skip) ∧
        (x.tx = .pending → x.reasons.send = false → becomes sends) ∧
        (x.tx = .onBus → x.again = false → becomes { reloaded with again := true }) ∧
        (x.tx = .onBus → x.again = true → becomes skip)) ∧
      (x.cfg.role = .subscribe →
        exec (.deadlineExpiry n) s = .next
          ((s.setSlot n { x with freshness := .stale, timer := .stopped }).raise
            (.slot n .stale) (.stale x.stamp)))) ∧
    (x.life ≠ .enabled ∨ x.timer ≠ .due ∨ x.cfg.role ≠ .publish →
      exec (.periodExpiry n) s = .next s) ∧
    (x.life ≠ .enabled ∨ x.timer ≠ .due ∨ x.cfg.role ≠ .subscribe →
      exec (.deadlineExpiry n) s = .next s)

/-- R13, R14, R106, R116, R119, R150, R167: PART_CLOCK_ADVANCE first takes what is overdue, exactly as the commands
of those events do (log 4), nothing where nothing is; then one millisecond passes: the clock goes up by one, every
running timer counts down, a count that would reach 0 is due (log 3), the bus-stuck watch, but for LOOPBACK, counts
one for each advance (log 19) and the framer's time too (log 12), where they run; a burst notes the advance, and one
that noted an earlier one is over (log 21); nothing else changes. -/
def Obligations.AMillisecondCountsEveryTimer : Prop :=
  (∀ s : State, ∃ (u : State) (slots : Vector Slot 24), execAll s.overdue s = .next u ∧
    exec .partClockAdvance s = .next { u with
      clock := u.clock + 1
      slots := slots
      engine := { u.engine with
        watchMs :=
          (if (u.engine.state = .syncing ∨ u.engine.state = .recovering) ∧ u.engine.mode ≠ .loopback then
            min 1000 (u.engine.watchMs + 1) else u.engine.watchMs)
        phase := match u.engine.phase with
          | .burst _ true => .delimiter
          | .burst active false => .burst active true
          | p => p }
      link := { u.link with framer := { u.link.framer with sinceLast :=
        (if u.link.framer.buf = [] then u.link.framer.sinceLast
         else min 11 (u.link.framer.sinceLast + 1)) } } } ∧
    ∀ n, slots.get n = { u.slot n with timer :=
      match (u.slot n).timer with
      | .running ms => if ms ≤ 1 then .due else .running (ms - 1)
      | t => t }) ∧
  (∀ s : State, (∀ n, (s.slot n).timer ≠ .due) →
    s.engine.watchMs < 1000 ∨ s.engine.busStuck = true ∨ s.engine.mode = .loopback →
    s.engine.burstPassed = false → s.link.framer.sinceLast < 11 →
    execAll s.overdue s = .next s)

/-! ### The two lines bit by bit (05_the_dorhal_bus.md, 08 R144) -/

/-- R86, R89 to R95, R97, R99, R105, R165: the levels that carry a frame, fill bits and check with them, read back
bit by bit, come to that very frame for a receiver, in NORMAL mode when it is acknowledged and in LISTEN always; for
its transmitter to Sent when the ack slot is read active, and to NO_ACK when it is not. BUS_TX is passive (`true`) in
every state but ACTIVE and STOPPING and in every mode but NORMAL; else it carries the bits of the part's own frame
until its fate, an active bit in the ack slot of a frame found good and at no other bit received (of levels that begin
with a start bit, only after the whole fill span of a frame, good check and all), and an active
burst for its 8 bits; at every other bit it is passive. R144: bytes sent back to back on the host link are read back
after any idle time, whatever the level of a stop bit; a line held low gives bytes of 0x00 (each ten bits: log 25),
which a hunting framer ignores; HOST_OUT is idle high but for the bytes of the frame last begun, and the levels of a
whole good frame on HOST_IN come to the framer's command with its bytes. No command moves one bit: the levels are
functions beside State (log 8). -/
def Obligations.TheLineCarriesEveryFrameWhole : Prop :=
  (∀ f : BusFrame, f.wf = true →
    receiverCommand .normal (lineBits true f) = some (.frameEnd f) ∧
    (∀ acked, receiverCommand .listen (lineBits acked f) = some (.frameEnd f)) ∧
    transmitterCommand f (lineBits true f) = some .txSent ∧
    transmitterCommand f (lineBits false f) = some (.txFaulted .noAck true)) ∧
  (∀ (s : State) (levels : List Bool),
    let e := s.engine
    ((e.state ≠ .active ∧ e.state ≠ .stopping) ∨ e.mode ≠ .normal → s.busTx levels = true) ∧
    (e.phase = .quiet ∨ e.phase = .gap ∨ e.phase = .delimiter → s.busTx levels = true) ∧
    (e.state = .active ∨ e.state = .stopping → e.mode = .normal →
      (∀ active ticked, e.phase = .burst active ticked →
        s.busTx levels = (if active = true ∧ levels.length < 8 then false else true)) ∧
      (e.phase = .receiving → receiverCommand .normal levels ≠ none → s.busTx levels = true) ∧
      (e.phase = .receiving → levels.head? = some false → s.busTx levels = false →
        ∃ f : BusFrame, f.wf = true ∧ levels = fill (spanBits f)) ∧
      (e.phase = .receiving → ∀ (f : BusFrame) (acked : Bool) (n : Nat), f.wf = true →
        n ≤ (lineBits acked f).length →
        s.busTx ((lineBits acked f).take n) = (if n = (fill (spanBits f)).length then false else true)) ∧
      (e.phase = .sending → ∀ rec, s.txBuffer = some rec →
        (transmitterCommand rec.frame levels ≠ none → s.busTx levels = true) ∧
        (rec.frame.wf = true → ∀ (acked : Bool) (n : Nat),
          s.busTx ((lineBits acked rec.frame).take n) = (lineBits false rec.frame).getD n true)))) ∧
  (∀ (bytes : List Byte) (idle : Nat), serialRead (List.replicate idle true ++ serialLine bytes) = bytes) ∧
  (∀ (b : Byte) (stop : Bool) (rest : List Bool),
    serialRead ((serialBits b).take 9 ++ stop :: rest) = b :: serialRead rest) ∧
  (∀ n : Nat, serialRead (List.replicate (10 * n) false) = List.replicate n 0 ∧
    hostInCommand .hunting (List.replicate n false) = none) ∧
  (∀ (s : State) (idle : Nat),
    (∀ frame, s.link.hostOut = some frame →
      serialRead ((List.range (10 * frame.length + idle)).map s.hostOutLevel) = frame ∧
      ∀ k, s.hostOutLevel (10 * frame.length + k) = true) ∧
    (s.link.hostOut = none → s.hostOutLevel idle = true)) ∧
  (∀ (kind seq : Byte) (body : List Byte), body.length ≤ 60 →
    hostInCommand .hunting (serialLine (envelope kind seq body))
      = some (.hostFrameReceived (envelope kind seq body)))
end

