-- ==== Sys2Proof/Laws/State.lean ====
section
/-! SUPPORT. What each update of State does to each field, and the slot table read after a write. -/

namespace Sys2Proof.Machine

-- One theorem after the other: the file then needs one thread, not one for each proof.
set_option Elab.async false

/-! ### One lemma a field an update -/

@[simp] theorem State.setMasks_slots (s : State) (a b : Tag) : (s.setMasks a b).slots = s.slots := rfl
@[simp] theorem State.setMasks_maskA (s : State) (a b : Tag) : (s.setMasks a b).maskA = a := rfl
@[simp] theorem State.setMasks_maskB (s : State) (a b : Tag) : (s.setMasks a b).maskB = b := rfl
@[simp] theorem State.setMasks_clock (s : State) (a b : Tag) : (s.setMasks a b).clock = s.clock := rfl
@[simp] theorem State.setMasks_txBuffer (s : State) (a b : Tag) : (s.setMasks a b).txBuffer = s.txBuffer := rfl
@[simp] theorem State.setMasks_catchQ (s : State) (a b : Tag) : (s.setMasks a b).catchQ = s.catchQ := rfl
@[simp] theorem State.setMasks_engine (s : State) (a b : Tag) : (s.setMasks a b).engine = s.engine := rfl
@[simp] theorem State.setMasks_diag (s : State) (a b : Tag) : (s.setMasks a b).diag = s.diag := rfl
@[simp] theorem State.setMasks_notices (s : State) (a b : Tag) : (s.setMasks a b).notices = s.notices := rfl
@[simp] theorem State.setMasks_link (s : State) (a b : Tag) : (s.setMasks a b).link = s.link := rfl
@[simp] theorem State.setMasks_freeCount (s : State) (a b : Tag) : (s.setMasks a b).freeCount = s.freeCount := rfl
@[simp] theorem State.setMasks_pending (s : State) (a b : Tag) : (s.setMasks a b).pending = s.pending := rfl

@[simp] theorem State.setClock_slots (s : State) (c : Stamp) : (s.setClock c).slots = s.slots := rfl
@[simp] theorem State.setClock_maskA (s : State) (c : Stamp) : (s.setClock c).maskA = s.maskA := rfl
@[simp] theorem State.setClock_maskB (s : State) (c : Stamp) : (s.setClock c).maskB = s.maskB := rfl
@[simp] theorem State.setClock_clock (s : State) (c : Stamp) : (s.setClock c).clock = c := rfl
@[simp] theorem State.setClock_txBuffer (s : State) (c : Stamp) : (s.setClock c).txBuffer = s.txBuffer := rfl
@[simp] theorem State.setClock_catchQ (s : State) (c : Stamp) : (s.setClock c).catchQ = s.catchQ := rfl
@[simp] theorem State.setClock_engine (s : State) (c : Stamp) : (s.setClock c).engine = s.engine := rfl
@[simp] theorem State.setClock_diag (s : State) (c : Stamp) : (s.setClock c).diag = s.diag := rfl
@[simp] theorem State.setClock_notices (s : State) (c : Stamp) : (s.setClock c).notices = s.notices := rfl
@[simp] theorem State.setClock_link (s : State) (c : Stamp) : (s.setClock c).link = s.link := rfl
@[simp] theorem State.setClock_freeCount (s : State) (c : Stamp) : (s.setClock c).freeCount = s.freeCount := rfl
@[simp] theorem State.setClock_pending (s : State) (c : Stamp) : (s.setClock c).pending = s.pending := rfl

@[simp] theorem State.setTxBuffer_slots (s : State) (b : Option TxRecord) : (s.setTxBuffer b).slots = s.slots := rfl
@[simp] theorem State.setTxBuffer_maskA (s : State) (b : Option TxRecord) : (s.setTxBuffer b).maskA = s.maskA := rfl
@[simp] theorem State.setTxBuffer_maskB (s : State) (b : Option TxRecord) : (s.setTxBuffer b).maskB = s.maskB := rfl
@[simp] theorem State.setTxBuffer_clock (s : State) (b : Option TxRecord) : (s.setTxBuffer b).clock = s.clock := rfl
@[simp] theorem State.setTxBuffer_txBuffer (s : State) (b : Option TxRecord) : (s.setTxBuffer b).txBuffer = b := rfl
@[simp] theorem State.setTxBuffer_catchQ (s : State) (b : Option TxRecord) : (s.setTxBuffer b).catchQ = s.catchQ := rfl
@[simp] theorem State.setTxBuffer_engine (s : State) (b : Option TxRecord) : (s.setTxBuffer b).engine = s.engine := rfl
@[simp] theorem State.setTxBuffer_diag (s : State) (b : Option TxRecord) : (s.setTxBuffer b).diag = s.diag := rfl
@[simp] theorem State.setTxBuffer_notices (s : State) (b : Option TxRecord) : (s.setTxBuffer b).notices = s.notices := rfl
@[simp] theorem State.setTxBuffer_link (s : State) (b : Option TxRecord) : (s.setTxBuffer b).link = s.link := rfl
@[simp] theorem State.setTxBuffer_freeCount (s : State) (b : Option TxRecord) : (s.setTxBuffer b).freeCount = s.freeCount := rfl
@[simp] theorem State.setTxBuffer_pending (s : State) (b : Option TxRecord) : (s.setTxBuffer b).pending = s.pending := rfl

@[simp] theorem State.setCatch_slots (s : State) (c : CatchQueue) : (s.setCatch c).slots = s.slots := rfl
@[simp] theorem State.setCatch_maskA (s : State) (c : CatchQueue) : (s.setCatch c).maskA = s.maskA := rfl
@[simp] theorem State.setCatch_maskB (s : State) (c : CatchQueue) : (s.setCatch c).maskB = s.maskB := rfl
@[simp] theorem State.setCatch_clock (s : State) (c : CatchQueue) : (s.setCatch c).clock = s.clock := rfl
@[simp] theorem State.setCatch_txBuffer (s : State) (c : CatchQueue) : (s.setCatch c).txBuffer = s.txBuffer := rfl
@[simp] theorem State.setCatch_catchQ (s : State) (c : CatchQueue) : (s.setCatch c).catchQ = c := rfl
@[simp] theorem State.setCatch_engine (s : State) (c : CatchQueue) : (s.setCatch c).engine = s.engine := rfl
@[simp] theorem State.setCatch_diag (s : State) (c : CatchQueue) : (s.setCatch c).diag = s.diag := rfl
@[simp] theorem State.setCatch_notices (s : State) (c : CatchQueue) : (s.setCatch c).notices = s.notices := rfl
@[simp] theorem State.setCatch_link (s : State) (c : CatchQueue) : (s.setCatch c).link = s.link := rfl
@[simp] theorem State.setCatch_freeCount (s : State) (c : CatchQueue) : (s.setCatch c).freeCount = s.freeCount := rfl
@[simp] theorem State.setCatch_pending (s : State) (c : CatchQueue) : (s.setCatch c).pending = s.pending := rfl

@[simp] theorem State.setEngine_slots (s : State) (e : Engine) : (s.setEngine e).slots = s.slots := rfl
@[simp] theorem State.setEngine_maskA (s : State) (e : Engine) : (s.setEngine e).maskA = s.maskA := rfl
@[simp] theorem State.setEngine_maskB (s : State) (e : Engine) : (s.setEngine e).maskB = s.maskB := rfl
@[simp] theorem State.setEngine_clock (s : State) (e : Engine) : (s.setEngine e).clock = s.clock := rfl
@[simp] theorem State.setEngine_txBuffer (s : State) (e : Engine) : (s.setEngine e).txBuffer = s.txBuffer := rfl
@[simp] theorem State.setEngine_catchQ (s : State) (e : Engine) : (s.setEngine e).catchQ = s.catchQ := rfl
@[simp] theorem State.setEngine_engine (s : State) (e : Engine) : (s.setEngine e).engine = e := rfl
@[simp] theorem State.setEngine_diag (s : State) (e : Engine) : (s.setEngine e).diag = s.diag := rfl
@[simp] theorem State.setEngine_notices (s : State) (e : Engine) : (s.setEngine e).notices = s.notices := rfl
@[simp] theorem State.setEngine_link (s : State) (e : Engine) : (s.setEngine e).link = s.link := rfl
@[simp] theorem State.setEngine_freeCount (s : State) (e : Engine) : (s.setEngine e).freeCount = s.freeCount := rfl
@[simp] theorem State.setEngine_pending (s : State) (e : Engine) : (s.setEngine e).pending = s.pending := rfl

@[simp] theorem State.setDiag_slots (s : State) (d : DiagCounters) : (s.setDiag d).slots = s.slots := rfl
@[simp] theorem State.setDiag_maskA (s : State) (d : DiagCounters) : (s.setDiag d).maskA = s.maskA := rfl
@[simp] theorem State.setDiag_maskB (s : State) (d : DiagCounters) : (s.setDiag d).maskB = s.maskB := rfl
@[simp] theorem State.setDiag_clock (s : State) (d : DiagCounters) : (s.setDiag d).clock = s.clock := rfl
@[simp] theorem State.setDiag_txBuffer (s : State) (d : DiagCounters) : (s.setDiag d).txBuffer = s.txBuffer := rfl
@[simp] theorem State.setDiag_catchQ (s : State) (d : DiagCounters) : (s.setDiag d).catchQ = s.catchQ := rfl
@[simp] theorem State.setDiag_engine (s : State) (d : DiagCounters) : (s.setDiag d).engine = s.engine := rfl
@[simp] theorem State.setDiag_diag (s : State) (d : DiagCounters) : (s.setDiag d).diag = d := rfl
@[simp] theorem State.setDiag_notices (s : State) (d : DiagCounters) : (s.setDiag d).notices = s.notices := rfl
@[simp] theorem State.setDiag_link (s : State) (d : DiagCounters) : (s.setDiag d).link = s.link := rfl
@[simp] theorem State.setDiag_freeCount (s : State) (d : DiagCounters) : (s.setDiag d).freeCount = s.freeCount := rfl
@[simp] theorem State.setDiag_pending (s : State) (d : DiagCounters) : (s.setDiag d).pending = s.pending := rfl

@[simp] theorem State.setNotices_slots (s : State) (n : Notices) : (s.setNotices n).slots = s.slots := rfl
@[simp] theorem State.setNotices_maskA (s : State) (n : Notices) : (s.setNotices n).maskA = s.maskA := rfl
@[simp] theorem State.setNotices_maskB (s : State) (n : Notices) : (s.setNotices n).maskB = s.maskB := rfl
@[simp] theorem State.setNotices_clock (s : State) (n : Notices) : (s.setNotices n).clock = s.clock := rfl
@[simp] theorem State.setNotices_txBuffer (s : State) (n : Notices) : (s.setNotices n).txBuffer = s.txBuffer := rfl
@[simp] theorem State.setNotices_catchQ (s : State) (n : Notices) : (s.setNotices n).catchQ = s.catchQ := rfl
@[simp] theorem State.setNotices_engine (s : State) (n : Notices) : (s.setNotices n).engine = s.engine := rfl
@[simp] theorem State.setNotices_diag (s : State) (n : Notices) : (s.setNotices n).diag = s.diag := rfl
@[simp] theorem State.setNotices_notices (s : State) (n : Notices) : (s.setNotices n).notices = n := rfl
@[simp] theorem State.setNotices_link (s : State) (n : Notices) : (s.setNotices n).link = s.link := rfl
@[simp] theorem State.setNotices_freeCount (s : State) (n : Notices) : (s.setNotices n).freeCount = s.freeCount := rfl
@[simp] theorem State.setNotices_pending (s : State) (n : Notices) : (s.setNotices n).pending = s.pending := rfl

@[simp] theorem State.setLink_slots (s : State) (l : Link) : (s.setLink l).slots = s.slots := rfl
@[simp] theorem State.setLink_maskA (s : State) (l : Link) : (s.setLink l).maskA = s.maskA := rfl
@[simp] theorem State.setLink_maskB (s : State) (l : Link) : (s.setLink l).maskB = s.maskB := rfl
@[simp] theorem State.setLink_clock (s : State) (l : Link) : (s.setLink l).clock = s.clock := rfl
@[simp] theorem State.setLink_txBuffer (s : State) (l : Link) : (s.setLink l).txBuffer = s.txBuffer := rfl
@[simp] theorem State.setLink_catchQ (s : State) (l : Link) : (s.setLink l).catchQ = s.catchQ := rfl
@[simp] theorem State.setLink_engine (s : State) (l : Link) : (s.setLink l).engine = s.engine := rfl
@[simp] theorem State.setLink_diag (s : State) (l : Link) : (s.setLink l).diag = s.diag := rfl
@[simp] theorem State.setLink_notices (s : State) (l : Link) : (s.setLink l).notices = s.notices := rfl
@[simp] theorem State.setLink_link (s : State) (l : Link) : (s.setLink l).link = l := rfl
@[simp] theorem State.setLink_freeCount (s : State) (l : Link) : (s.setLink l).freeCount = s.freeCount := rfl
@[simp] theorem State.setLink_pending (s : State) (l : Link) : (s.setLink l).pending = s.pending := rfl

@[simp] theorem State.setFreeCount_slots (s : State) (n : Nat) : (s.setFreeCount n).slots = s.slots := rfl
@[simp] theorem State.setFreeCount_maskA (s : State) (n : Nat) : (s.setFreeCount n).maskA = s.maskA := rfl
@[simp] theorem State.setFreeCount_maskB (s : State) (n : Nat) : (s.setFreeCount n).maskB = s.maskB := rfl
@[simp] theorem State.setFreeCount_clock (s : State) (n : Nat) : (s.setFreeCount n).clock = s.clock := rfl
@[simp] theorem State.setFreeCount_txBuffer (s : State) (n : Nat) : (s.setFreeCount n).txBuffer = s.txBuffer := rfl
@[simp] theorem State.setFreeCount_catchQ (s : State) (n : Nat) : (s.setFreeCount n).catchQ = s.catchQ := rfl
@[simp] theorem State.setFreeCount_engine (s : State) (n : Nat) : (s.setFreeCount n).engine = s.engine := rfl
@[simp] theorem State.setFreeCount_diag (s : State) (n : Nat) : (s.setFreeCount n).diag = s.diag := rfl
@[simp] theorem State.setFreeCount_notices (s : State) (n : Nat) : (s.setFreeCount n).notices = s.notices := rfl
@[simp] theorem State.setFreeCount_link (s : State) (n : Nat) : (s.setFreeCount n).link = s.link := rfl
@[simp] theorem State.setFreeCount_freeCount (s : State) (n : Nat) : (s.setFreeCount n).freeCount = n := rfl
@[simp] theorem State.setFreeCount_pending (s : State) (n : Nat) : (s.setFreeCount n).pending = s.pending := rfl

@[simp] theorem State.setPending_slots (s : State) (q : List Instr) : (s.setPending q).slots = s.slots := rfl
@[simp] theorem State.setPending_maskA (s : State) (q : List Instr) : (s.setPending q).maskA = s.maskA := rfl
@[simp] theorem State.setPending_maskB (s : State) (q : List Instr) : (s.setPending q).maskB = s.maskB := rfl
@[simp] theorem State.setPending_clock (s : State) (q : List Instr) : (s.setPending q).clock = s.clock := rfl
@[simp] theorem State.setPending_txBuffer (s : State) (q : List Instr) : (s.setPending q).txBuffer = s.txBuffer := rfl
@[simp] theorem State.setPending_catchQ (s : State) (q : List Instr) : (s.setPending q).catchQ = s.catchQ := rfl
@[simp] theorem State.setPending_engine (s : State) (q : List Instr) : (s.setPending q).engine = s.engine := rfl
@[simp] theorem State.setPending_diag (s : State) (q : List Instr) : (s.setPending q).diag = s.diag := rfl
@[simp] theorem State.setPending_notices (s : State) (q : List Instr) : (s.setPending q).notices = s.notices := rfl
@[simp] theorem State.setPending_link (s : State) (q : List Instr) : (s.setPending q).link = s.link := rfl
@[simp] theorem State.setPending_freeCount (s : State) (q : List Instr) : (s.setPending q).freeCount = s.freeCount := rfl
@[simp] theorem State.setPending_pending (s : State) (q : List Instr) : (s.setPending q).pending = q := rfl

@[simp] theorem State.setSlots_slots (s : State) (v : Vector Slot 24) : (s.setSlots v).slots = v := rfl
@[simp] theorem State.setSlots_maskA (s : State) (v : Vector Slot 24) : (s.setSlots v).maskA = s.maskA := rfl
@[simp] theorem State.setSlots_maskB (s : State) (v : Vector Slot 24) : (s.setSlots v).maskB = s.maskB := rfl
@[simp] theorem State.setSlots_clock (s : State) (v : Vector Slot 24) : (s.setSlots v).clock = s.clock := rfl
@[simp] theorem State.setSlots_txBuffer (s : State) (v : Vector Slot 24) : (s.setSlots v).txBuffer = s.txBuffer := rfl
@[simp] theorem State.setSlots_catchQ (s : State) (v : Vector Slot 24) : (s.setSlots v).catchQ = s.catchQ := rfl
@[simp] theorem State.setSlots_engine (s : State) (v : Vector Slot 24) : (s.setSlots v).engine = s.engine := rfl
@[simp] theorem State.setSlots_diag (s : State) (v : Vector Slot 24) : (s.setSlots v).diag = s.diag := rfl
@[simp] theorem State.setSlots_notices (s : State) (v : Vector Slot 24) : (s.setSlots v).notices = s.notices := rfl
@[simp] theorem State.setSlots_link (s : State) (v : Vector Slot 24) : (s.setSlots v).link = s.link := rfl
@[simp] theorem State.setSlots_freeCount (s : State) (v : Vector Slot 24) : (s.setSlots v).freeCount = s.freeCount := rfl
@[simp] theorem State.setSlots_pending (s : State) (v : Vector Slot 24) : (s.setSlots v).pending = s.pending := rfl

@[simp] theorem State.setSlot_maskA (s : State) (n : SlotNo) (x : Slot) : (s.setSlot n x).maskA = s.maskA := rfl
@[simp] theorem State.setSlot_maskB (s : State) (n : SlotNo) (x : Slot) : (s.setSlot n x).maskB = s.maskB := rfl
@[simp] theorem State.setSlot_clock (s : State) (n : SlotNo) (x : Slot) : (s.setSlot n x).clock = s.clock := rfl
@[simp] theorem State.setSlot_txBuffer (s : State) (n : SlotNo) (x : Slot) : (s.setSlot n x).txBuffer = s.txBuffer := rfl
@[simp] theorem State.setSlot_catchQ (s : State) (n : SlotNo) (x : Slot) : (s.setSlot n x).catchQ = s.catchQ := rfl
@[simp] theorem State.setSlot_engine (s : State) (n : SlotNo) (x : Slot) : (s.setSlot n x).engine = s.engine := rfl
@[simp] theorem State.setSlot_diag (s : State) (n : SlotNo) (x : Slot) : (s.setSlot n x).diag = s.diag := rfl
@[simp] theorem State.setSlot_notices (s : State) (n : SlotNo) (x : Slot) : (s.setSlot n x).notices = s.notices := rfl
@[simp] theorem State.setSlot_link (s : State) (n : SlotNo) (x : Slot) : (s.setSlot n x).link = s.link := rfl
@[simp] theorem State.setSlot_freeCount (s : State) (n : SlotNo) (x : Slot) : (s.setSlot n x).freeCount = s.freeCount := rfl
@[simp] theorem State.setSlot_pending (s : State) (n : SlotNo) (x : Slot) : (s.setSlot n x).pending = s.pending := rfl

@[simp] theorem State.setMasks_slot (s : State) (a b : Tag) (i : SlotNo) : (s.setMasks a b).slot i = s.slot i := rfl
@[simp] theorem State.setClock_slot (s : State) (c : Stamp) (i : SlotNo) : (s.setClock c).slot i = s.slot i := rfl
@[simp] theorem State.setTxBuffer_slot (s : State) (b : Option TxRecord) (i : SlotNo) : (s.setTxBuffer b).slot i = s.slot i := rfl
@[simp] theorem State.setCatch_slot (s : State) (c : CatchQueue) (i : SlotNo) : (s.setCatch c).slot i = s.slot i := rfl
@[simp] theorem State.setEngine_slot (s : State) (e : Engine) (i : SlotNo) : (s.setEngine e).slot i = s.slot i := rfl
@[simp] theorem State.setDiag_slot (s : State) (d : DiagCounters) (i : SlotNo) : (s.setDiag d).slot i = s.slot i := rfl
@[simp] theorem State.setNotices_slot (s : State) (v : Notices) (i : SlotNo) : (s.setNotices v).slot i = s.slot i := rfl
@[simp] theorem State.setLink_slot (s : State) (l : Link) (i : SlotNo) : (s.setLink l).slot i = s.slot i := rfl
@[simp] theorem State.setFreeCount_slot (s : State) (v : Nat) (i : SlotNo) : (s.setFreeCount v).slot i = s.slot i := rfl
@[simp] theorem State.setPending_slot (s : State) (q : List Instr) (i : SlotNo) : (s.setPending q).slot i = s.slot i := rfl

/-! ### The slot table read after a write -/

theorem State.slot_eq (s : State) (n : SlotNo) : s.slot n = s.slots[n.val]'n.isLt := rfl

@[simp] theorem State.setSlot_slot_self (s : State) (n : SlotNo) (x : Slot) : (s.setSlot n x).slot n = x := by
  simp [State.slot_eq, State.setSlot]

theorem State.setSlot_slot_other (s : State) {m n : SlotNo} (x : Slot) (h : m ≠ n) :
    (s.setSlot n x).slot m = s.slot m := by
  have : n.val ≠ m.val := fun e => h (Fin.ext e.symm)
  simp [State.slot_eq, State.setSlot, this]

/-- A write of one slot, read anywhere. -/
theorem State.setSlot_slot (s : State) (m n : SlotNo) (x : Slot) :
    (s.setSlot n x).slot m = if m = n then x else s.slot m := by
  split
  · next h => subst h; simp
  · next h => exact s.setSlot_slot_other x h

/-- The slot numbers are all there. -/
theorem mem_allSlots (n : SlotNo) : n ∈ allSlots := by
  revert n; decide

/-- One function over every record, read at one slot. -/
@[simp] theorem mapSlots_get (f : Slot → Slot) (v : Vector Slot 24) (n : SlotNo) :
    (mapSlots f v).get n = f (v.get n) := by
  simp [mapSlots, Vector.get]
  rfl

@[simp] theorem State.setSlots_slot (s : State) (v : Vector Slot 24) (n : SlotNo) :
    (s.setSlots v).slot n = v.get n := rfl

/-! ### Events -/

@[simp] theorem State.raise_slots (s : State) (p : Pair) (d : Detail) : (s.raise p d).slots = s.slots := by
  unfold State.raise; split <;> rfl

@[simp] theorem State.raise_maskA (s : State) (p : Pair) (d : Detail) : (s.raise p d).maskA = s.maskA := by
  unfold State.raise; split <;> rfl

@[simp] theorem State.raise_maskB (s : State) (p : Pair) (d : Detail) : (s.raise p d).maskB = s.maskB := by
  unfold State.raise; split <;> rfl

@[simp] theorem State.raise_clock (s : State) (p : Pair) (d : Detail) : (s.raise p d).clock = s.clock := by
  unfold State.raise; split <;> rfl

@[simp] theorem State.raise_txBuffer (s : State) (p : Pair) (d : Detail) : (s.raise p d).txBuffer = s.txBuffer := by
  unfold State.raise; split <;> rfl

@[simp] theorem State.raise_catchQ (s : State) (p : Pair) (d : Detail) : (s.raise p d).catchQ = s.catchQ := by
  unfold State.raise; split <;> rfl

@[simp] theorem State.raise_engine (s : State) (p : Pair) (d : Detail) : (s.raise p d).engine = s.engine := by
  unfold State.raise; split <;> rfl

@[simp] theorem State.raise_diag (s : State) (p : Pair) (d : Detail) : (s.raise p d).diag = s.diag := by
  unfold State.raise; split <;> rfl

@[simp] theorem State.raise_link (s : State) (p : Pair) (d : Detail) : (s.raise p d).link = s.link := by
  unfold State.raise; split <;> rfl

@[simp] theorem State.raise_freeCount (s : State) (p : Pair) (d : Detail) : (s.raise p d).freeCount = s.freeCount := by
  unfold State.raise; split <;> rfl

@[simp] theorem State.raise_pending (s : State) (p : Pair) (d : Detail) : (s.raise p d).pending = s.pending := by
  unfold State.raise; split <;> rfl

@[simp] theorem State.raise_slot (s : State) (p : Pair) (d : Detail) (n : SlotNo) :
    (s.raise p d).slot n = s.slot n := by
  simp [State.slot_eq]

/-- A raised event reaches the notice set alone. -/
theorem State.raise_eq (s : State) (p : Pair) (d : Detail) :
    s.raise p d = s.setNotices (if s.eventEnabled p then s.notices.record s.clock p d else s.notices) := by
  unfold State.raise; split <;> rfl

end Sys2Proof.Machine
end

