-- ==== Sys2Proof/Laws/Link.lean ====
section
/-! SUPPORT. What the host link's shared operations can do: taking a request, reading a body's fields. -/

namespace Sys2Proof.Machine

-- One theorem after the other: the file then needs one thread, not one for each proof.
set_option Elab.async false

/-! ### Taking a request (R154) -/

/-- A request of the command's kind at the head of the inbox of a free processor is carried out. -/
theorem State.request_of_takes {α : Type} {s : State} {r : Request} {code : Byte}
    {parse : List Byte → Except Reply α} {run : α → State → State × Reply} {after : Processor}
    (h : s.Takes r) (hk : r.kind = code) :
    s.request code parse run after = s.carryOut r parse run after := by
  obtain ⟨hp, hh⟩ := h
  simp [State.request, Link.next, hp, hh, hk]

/-- Where the next request is of another kind, or none can be taken, the command changes nothing. -/
theorem State.request_of_other {α : Type} {s : State} {code : Byte}
    {parse : List Byte → Except Reply α} {run : α → State → State × Reply} {after : Processor}
    (h : ∀ r, s.Takes r → r.kind ≠ code) : s.request code parse run after = s := by
  unfold State.request
  split
  · next r hn =>
    split
    · next hk =>
      refine absurd hk (h r ?_)
      unfold Link.next at hn
      split at hn
      · next hp => exact ⟨hp, hn⟩
      · cases hn
    · rfl
  · rfl

/-- The state a request leaves when its body is taken and its effect is that of `run`. -/
theorem State.carryOut_ok {α : Type} {s t : State} {r : Request} {parse : List Byte → Except Reply α}
    {run : α → State → State × Reply} {a : α} {rep : Reply} (hb : parse r.body = .ok a)
    (hr : run a s.dropRequest = (t.dropRequest, rep)) :
    s.carryOut r parse run .replyWaiting = t.answered r rep := by
  simp only [State.carryOut, hb, hr]
  simp [State.finish, State.dropRequest, State.answered, Link.answer, State.setLink]

/-- The state a request leaves when its body is refused. -/
theorem State.carryOut_error {α : Type} {s : State} {r : Request} {parse : List Byte → Except Reply α}
    {run : α → State → State × Reply} {rep : Reply} {after : Processor} (hb : parse r.body = .error rep) :
    s.carryOut r parse run after = s.answered r rep := by
  simp [State.carryOut, hb, State.finish, State.dropRequest, State.answered, Link.answer, State.setLink]

/-- What a command that takes a request can come to: nothing, a body refused, or its effect and its reply. -/
theorem State.request_cases {α : Type} (s : State) (code : Byte) (parse : List Byte → Except Reply α)
    (run : α → State → State × Reply) (after : Processor) :
    s.request code parse run after = s ∨
      ∃ r, s.Takes r ∧ r.kind = code ∧
        ((∃ rep, parse r.body = .error rep ∧ s.request code parse run after = s.answered r rep) ∨
         (∃ a, parse r.body = .ok a ∧
           s.request code parse run after
             = (run a s.dropRequest).1.finish r (run a s.dropRequest).2 after)) := by
  by_cases h : ∃ r, s.Takes r ∧ r.kind = code
  · obtain ⟨r, hr, hk⟩ := h
    refine .inr ⟨r, hr, hk, ?_⟩
    rw [State.request_of_takes hr hk]
    cases hb : parse r.body with
    | error rep => exact .inl ⟨rep, rfl, State.carryOut_error hb⟩
    | ok a => exact .inr ⟨a, rfl, by simp [State.carryOut, hb]⟩
  · exact .inl (State.request_of_other fun r hr hk => h ⟨r, hr, hk⟩)

/-- The request taken out of the inbox touches no slot. -/
@[simp] theorem State.dropRequest_slot (s : State) (n : SlotNo) : s.dropRequest.slot n = s.slot n := rfl
@[simp] theorem State.dropRequest_engine (s : State) : s.dropRequest.engine = s.engine := rfl
@[simp] theorem State.dropRequest_catchQ (s : State) : s.dropRequest.catchQ = s.catchQ := rfl
@[simp] theorem State.dropRequest_notices (s : State) : s.dropRequest.notices = s.notices := rfl
@[simp] theorem State.dropRequest_diag (s : State) : s.dropRequest.diag = s.diag := rfl
@[simp] theorem State.dropRequest_clock (s : State) : s.dropRequest.clock = s.clock := rfl
@[simp] theorem State.dropRequest_txBuffer (s : State) : s.dropRequest.txBuffer = s.txBuffer := rfl
@[simp] theorem State.dropRequest_freeCount (s : State) : s.dropRequest.freeCount = s.freeCount := rfl

/-- A slot's record and the inbox are written in either order. -/
theorem State.dropRequest_setSlot (s : State) (n : SlotNo) (x : Slot) :
    s.dropRequest.setSlot n x = (s.setSlot n x).dropRequest := rfl

/-- An event and the inbox are written in either order. -/
theorem State.dropRequest_raise (s : State) (p : Pair) (d : Detail) :
    s.dropRequest.raise p d = (s.raise p d).dropRequest := by
  have : s.dropRequest.eventEnabled p = s.eventEnabled p := by cases p <;> rfl
  simp only [State.raise, this]; split <;> rfl

/-! ### The fields of a body (R146): a value's code read back -/

theorem rateOf_rateByte (r : Rate) : rateOf (rateByte r) = some r := by cases r <;> rfl
theorem samplePointOf_samplePointByte (p : SamplePoint) : samplePointOf (samplePointByte p) = some p := by
  cases p <;> rfl
theorem modeOf_modeByte (m : Mode) : modeOf (modeByte m) = some m := by cases m <;> rfl
theorem flagOf_flagByte (b : Bool) : flagOf (flagByte b) = some b := by cases b <;> rfl
theorem roleOf_roleByte (r : Role) : roleOf (roleByte r) = some r := by cases r <;> rfl
theorem matchOf_matchByte (m : Match) : matchOf (matchByte m) = some m := by cases m <;> rfl
theorem slotOf_slotByte (n : SlotNo) : slotOf (slotByte n) = some n := by revert n; decide

/-- A count that fits a byte is read back. -/
theorem byteOf_toNat {n : Nat} (h : n < 256) : (byteOf n).toNat = n := by
  simp only [byteOf, BitVec.toNat_ofNat]; omega

theorem intervalOf_halfBytes {n : Nat} (h : n ≤ 60000) :
    intervalOf (byteOf (n / 256)) (byteOf n) = some n := by
  have : halfOf (byteOf (n / 256)) (byteOf n) = n := by
    simp only [halfOf, byteOf, BitVec.toNat_ofNat]; omega
  simp [intervalOf, this, h]

theorem tagOf_tagBytes (t : Tag) :
    tagOf (t.extractLsb' 16 8) (t.extractLsb' 8 8) (t.extractLsb' 0 8) = t := by
  unfold tagOf
  apply BitVec.eq_of_toNat_eq
  have := t.isLt
  simp only [BitVec.toNat_append, BitVec.extractLsb'_toNat, Nat.shiftRight_eq_div_pow]
  rw [← Nat.shiftLeft_add_eq_or_of_lt (by omega), ← Nat.shiftLeft_add_eq_or_of_lt (by omega)]
  simp only [Nat.shiftLeft_eq]; omega

end Sys2Proof.Machine
end

