-- ==== Sys2Proof/Laws/Notices.lean ====
section
/-! SUPPORT. What the keyed lists of the notice set can do (R129, R132, R133). -/

namespace Sys2Proof.Machine

-- One theorem after the other: the file then needs one thread, not one for each proof.
set_option Elab.async false

/-- R133: no two pairs share a rank. -/
theorem Pair.rank_injective {p q : Pair} (h : p.rank = q.rank) : p = q := by
  have bound : ∀ k : SlotKind, k.rank < 6 := by intro k; cases k <;> decide
  cases p <;> cases q <;> simp only [Pair.rank] at h
  all_goals first
    | rfl
    | omega
    | skip
  case slot.slot n k m l =>
    have hk := bound k
    have hl := bound l
    have hn : n = m := Fin.ext (by omega)
    have hr : k.rank = l.rank := by omega
    have same : k = l := by revert hr; cases k <;> cases l <;> decide
    rw [hn, same]
  all_goals (have := bound ‹SlotKind›; omega)

/-- What is put under a pair is what is read there. -/
theorem keyedGet_put_self {α : Type} (p : Pair) (f : Option α → α) (l : List (Pair × α))
    (h : keyedWf l = true) : keyedGet p (keyedPut p f l) = some (f (keyedGet p l)) := by
  have above : ∀ (l : List (Pair × α)) (q : Pair) (a : α), keyedWf ((q, a) :: l) = true →
      p.rank < q.rank → keyedGet p l = none := by
    intro l
    induction l with
    | nil => intros; rfl
    | cons x l ih =>
      intro q a hw hr
      obtain ⟨r, b⟩ := x
      simp only [keyedWf, Bool.and_eq_true, decide_eq_true_eq] at hw
      have hne : r ≠ p := by rintro rfl; omega
      simp only [keyedGet, if_neg hne]
      exact ih r b hw.2 (by omega)
  induction l with
  | nil => simp [keyedPut, keyedGet]
  | cons x l ih =>
    obtain ⟨q, a⟩ := x
    by_cases hq : q = p
    · simp [keyedPut, keyedGet, hq]
    · by_cases hr : p.rank < q.rank
      · simp [keyedPut, keyedGet, hq, hr, above l q a h hr]
      · have hw : keyedWf l = true := by
          cases l with
          | nil => rfl
          | cons y l => obtain ⟨r, b⟩ := y; simp [keyedWf] at h ⊢; exact h.2
        simp [keyedPut, keyedGet, hq, hr, ih hw]

/-- Every other pair keeps its entry. -/
theorem keyedGet_put_other {α : Type} {p q : Pair} (hne : q ≠ p) (f : Option α → α)
    (l : List (Pair × α)) : keyedGet q (keyedPut p f l) = keyedGet q l := by
  induction l with
  | nil => simp [keyedPut, keyedGet, Ne.symm hne]
  | cons x l ih =>
    obtain ⟨r, a⟩ := x
    by_cases hr : r = p
    · subst hr; simp [keyedPut, keyedGet, Ne.symm hne]
    · by_cases hk : p.rank < r.rank
      · simp [keyedPut, keyedGet, hr, hk, Ne.symm hne]
      · simp only [keyedPut, keyedGet, hr, hk, if_false]
        split
        · rfl
        · exact ih

/-- The canonical form is kept. -/
theorem keyedWf_put {α : Type} (p : Pair) (f : Option α → α) (l : List (Pair × α))
    (h : keyedWf l = true) : keyedWf (keyedPut p f l) = true := by
  have step : ∀ (l : List (Pair × α)), keyedWf l = true → keyedWf (keyedPut p f l) = true ∧
      ∀ (q : Pair) (a : α), q.rank < p.rank → keyedWf ((q, a) :: l) = true →
        keyedWf ((q, a) :: keyedPut p f l) = true := by
    intro l
    induction l with
    | nil => intro _; exact ⟨rfl, fun q a hq _ => by simp [keyedPut, keyedWf, hq]⟩
    | cons x l ih =>
      intro hw
      obtain ⟨r, b⟩ := x
      have hwl : keyedWf l = true := by
        cases l with
        | nil => rfl
        | cons y l => obtain ⟨t, c⟩ := y; simp [keyedWf] at hw ⊢; exact hw.2
      by_cases hr : r = p
      · subst hr
        constructor
        · simp only [keyedPut, if_true]
          cases l with
          | nil => rfl
          | cons y l => obtain ⟨t, c⟩ := y; simpa [keyedWf] using hw
        · intro q a hq _
          simp only [keyedPut, if_true]
          cases l with
          | nil => simp [keyedWf, hq]
          | cons y l => obtain ⟨t, c⟩ := y; simp [keyedWf] at hw ⊢; exact ⟨hq, hw⟩
      · by_cases hk : p.rank < r.rank
        · simp only [keyedPut, hr, hk, if_false, if_true]
          exact ⟨by simp [keyedWf, hk, hw], fun q a hq _ => by simp [keyedWf, hk, hw, hq]⟩
        · have hlt : r.rank < p.rank := by
            have : r.rank ≠ p.rank := fun e => hr (Pair.rank_injective e)
            omega
          simp only [keyedPut, hr, hk, if_false]
          have h1 := (ih hwl).2 r b hlt hw
          refine ⟨h1, fun q a hq hw' => ?_⟩
          simp only [keyedWf, Bool.and_eq_true, decide_eq_true_eq] at hw' ⊢
          exact ⟨hw'.1, h1⟩
  exact (step l h).1

/-- R129: what recording an event does to the notice set, its enables and its outstanding entries apart. -/
theorem Notices.record_eq (nt : Notices) (clock : Stamp) (p : Pair) (d : Detail) :
    nt.record clock p d = { nt with pending := keyedPut p (Entry.fold clock d) nt.pending } := rfl

end Sys2Proof.Machine
end

