-- ==== Sys2Proof/Laws/PerInstr.lean ====
section
/-! SUPPORT. The statements made of each command as syntax, one lemma a constructor. -/

namespace Sys2Proof.Laws

-- One theorem after the other: the file then needs one thread, not one for each proof.
set_option Elab.async false

open Sys2Proof

/-- R9, R94, R95, R96: which operands a command can carry, in words of its own: a frame of at most 16 payload
bytes; of a transmitter's faults, FORM and NO_ACK only after the tag; of a receiver's, no tag only with CODING;
every other command carries any operands. -/
def WellFormedOperands.Statement (i : Instr) : Prop :=
  (∀ f, i = .frameEnd f →
    (i.wf = true ↔ ∀ payload, f.body = .publish payload → payload.length ≤ 16)) ∧
  (∀ k a, i = .txFaulted k a →
    (i.wf = true ↔ k ≠ .coding ∧ k ≠ .check ∧ (k = .form ∨ k = .noAck → a = true))) ∧
  (∀ k t, i = .rxFault k t →
    (i.wf = true ↔ k ≠ .noAck ∧ k ≠ .bitPassive ∧ (t = none → k = .coding))) ∧
  ((∀ f, i ≠ .frameEnd f) → (∀ k a, i ≠ .txFaulted k a) → (∀ k t, i ≠ .rxFault k t) → i.wf = true)

theorem WellFormedOperands.powerUp (rate1 rate0 : Bool) : Statement (.powerUp rate1 rate0) :=
  ⟨fun _ h => (nomatch h), fun _ _ h => (nomatch h), fun _ _ h => (nomatch h), fun _ _ _ => rfl⟩

theorem WellFormedOperands.identify : Statement .identify :=
  ⟨fun _ h => (nomatch h), fun _ _ h => (nomatch h), fun _ _ h => (nomatch h), fun _ _ _ => rfl⟩

theorem WellFormedOperands.restart : Statement .restart :=
  ⟨fun _ h => (nomatch h), fun _ _ h => (nomatch h), fun _ _ h => (nomatch h), fun _ _ _ => rfl⟩

theorem WellFormedOperands.restartTakeEffect : Statement .restartTakeEffect :=
  ⟨fun _ h => (nomatch h), fun _ _ h => (nomatch h), fun _ _ h => (nomatch h), fun _ _ _ => rfl⟩

theorem WellFormedOperands.setTiming : Statement .setTiming :=
  ⟨fun _ h => (nomatch h), fun _ _ h => (nomatch h), fun _ _ h => (nomatch h), fun _ _ _ => rfl⟩

theorem WellFormedOperands.setMode : Statement .setMode :=
  ⟨fun _ h => (nomatch h), fun _ _ h => (nomatch h), fun _ _ h => (nomatch h), fun _ _ _ => rfl⟩

theorem WellFormedOperands.goOnline : Statement .goOnline :=
  ⟨fun _ h => (nomatch h), fun _ _ h => (nomatch h), fun _ _ h => (nomatch h), fun _ _ _ => rfl⟩

theorem WellFormedOperands.goOffline : Statement .goOffline :=
  ⟨fun _ h => (nomatch h), fun _ _ h => (nomatch h), fun _ _ h => (nomatch h), fun _ _ _ => rfl⟩

theorem WellFormedOperands.engineStatus : Statement .engineStatus :=
  ⟨fun _ h => (nomatch h), fun _ _ h => (nomatch h), fun _ _ h => (nomatch h), fun _ _ _ => rfl⟩

theorem WellFormedOperands.diagCounts : Statement .diagCounts :=
  ⟨fun _ h => (nomatch h), fun _ _ h => (nomatch h), fun _ _ h => (nomatch h), fun _ _ _ => rfl⟩

theorem WellFormedOperands.setMasks : Statement .setMasks :=
  ⟨fun _ h => (nomatch h), fun _ _ h => (nomatch h), fun _ _ h => (nomatch h), fun _ _ _ => rfl⟩

theorem WellFormedOperands.configSlot : Statement .configSlot :=
  ⟨fun _ h => (nomatch h), fun _ _ h => (nomatch h), fun _ _ h => (nomatch h), fun _ _ _ => rfl⟩

theorem WellFormedOperands.enableSlot : Statement .enableSlot :=
  ⟨fun _ h => (nomatch h), fun _ _ h => (nomatch h), fun _ _ h => (nomatch h), fun _ _ _ => rfl⟩

theorem WellFormedOperands.disableSlot : Statement .disableSlot :=
  ⟨fun _ h => (nomatch h), fun _ _ h => (nomatch h), fun _ _ h => (nomatch h), fun _ _ _ => rfl⟩

theorem WellFormedOperands.writeSlot : Statement .writeSlot :=
  ⟨fun _ h => (nomatch h), fun _ _ h => (nomatch h), fun _ _ h => (nomatch h), fun _ _ _ => rfl⟩

theorem WellFormedOperands.readSlot : Statement .readSlot :=
  ⟨fun _ h => (nomatch h), fun _ _ h => (nomatch h), fun _ _ h => (nomatch h), fun _ _ _ => rfl⟩

theorem WellFormedOperands.sendSlot : Statement .sendSlot :=
  ⟨fun _ h => (nomatch h), fun _ _ h => (nomatch h), fun _ _ h => (nomatch h), fun _ _ _ => rfl⟩

theorem WellFormedOperands.querySlot : Statement .querySlot :=
  ⟨fun _ h => (nomatch h), fun _ _ h => (nomatch h), fun _ _ h => (nomatch h), fun _ _ _ => rfl⟩

theorem WellFormedOperands.abortSlot : Statement .abortSlot :=
  ⟨fun _ h => (nomatch h), fun _ _ h => (nomatch h), fun _ _ h => (nomatch h), fun _ _ _ => rfl⟩

theorem WellFormedOperands.setCatch : Statement .setCatch :=
  ⟨fun _ h => (nomatch h), fun _ _ h => (nomatch h), fun _ _ h => (nomatch h), fun _ _ _ => rfl⟩

theorem WellFormedOperands.takeCatch : Statement .takeCatch :=
  ⟨fun _ h => (nomatch h), fun _ _ h => (nomatch h), fun _ _ h => (nomatch h), fun _ _ _ => rfl⟩

theorem WellFormedOperands.noticeControl : Statement .noticeControl :=
  ⟨fun _ h => (nomatch h), fun _ _ h => (nomatch h), fun _ _ h => (nomatch h), fun _ _ _ => rfl⟩

theorem WellFormedOperands.ackNotices : Statement .ackNotices :=
  ⟨fun _ h => (nomatch h), fun _ _ h => (nomatch h), fun _ _ h => (nomatch h), fun _ _ _ => rfl⟩

theorem WellFormedOperands.resyncNotices : Statement .resyncNotices :=
  ⟨fun _ h => (nomatch h), fun _ _ h => (nomatch h), fun _ _ h => (nomatch h), fun _ _ _ => rfl⟩

theorem WellFormedOperands.requestUnknownKind : Statement .requestUnknownKind :=
  ⟨fun _ h => (nomatch h), fun _ _ h => (nomatch h), fun _ _ h => (nomatch h), fun _ _ _ => rfl⟩

theorem WellFormedOperands.hostFrameReceived (bytes : List Byte) : Statement (.hostFrameReceived bytes) :=
  ⟨fun _ h => (nomatch h), fun _ _ h => (nomatch h), fun _ _ h => (nomatch h), fun _ _ _ => rfl⟩

theorem WellFormedOperands.lengthFault (bytes : List Byte) : Statement (.lengthFault bytes) :=
  ⟨fun _ h => (nomatch h), fun _ _ h => (nomatch h), fun _ _ h => (nomatch h), fun _ _ _ => rfl⟩

theorem WellFormedOperands.gapTimeout (bytes : List Byte) : Statement (.gapTimeout bytes) :=
  ⟨fun _ h => (nomatch h), fun _ _ h => (nomatch h), fun _ _ h => (nomatch h), fun _ _ _ => rfl⟩

theorem WellFormedOperands.helloBegin : Statement .helloBegin :=
  ⟨fun _ h => (nomatch h), fun _ _ h => (nomatch h), fun _ _ h => (nomatch h), fun _ _ _ => rfl⟩

theorem WellFormedOperands.replyBegin : Statement .replyBegin :=
  ⟨fun _ h => (nomatch h), fun _ _ h => (nomatch h), fun _ _ h => (nomatch h), fun _ _ _ => rfl⟩

theorem WellFormedOperands.rejectBegin : Statement .rejectBegin :=
  ⟨fun _ h => (nomatch h), fun _ _ h => (nomatch h), fun _ _ h => (nomatch h), fun _ _ _ => rfl⟩

theorem WellFormedOperands.noticeDelivery : Statement .noticeDelivery :=
  ⟨fun _ h => (nomatch h), fun _ _ h => (nomatch h), fun _ _ h => (nomatch h), fun _ _ _ => rfl⟩

theorem WellFormedOperands.frameEnd (frame : BusFrame) : Statement (.frameEnd frame) := by
  refine ⟨?_, fun _ _ h => (nomatch h), fun _ _ h => (nomatch h), fun h => absurd rfl (h _)⟩
  intro f h
  cases h
  change frame.wf = true ↔ _
  unfold BusFrame.wf
  cases frame.body with
  | publish data =>
    exact ⟨fun h _ e => by cases e; exact of_decide_eq_true h, fun h => decide_eq_true (h data rfl)⟩
  | query => exact ⟨fun _ _ e => (nomatch e), fun _ => rfl⟩

theorem WellFormedOperands.selection : Statement .selection :=
  ⟨fun _ h => (nomatch h), fun _ _ h => (nomatch h), fun _ _ h => (nomatch h), fun _ _ _ => rfl⟩

theorem WellFormedOperands.txSent : Statement .txSent :=
  ⟨fun _ h => (nomatch h), fun _ _ h => (nomatch h), fun _ _ h => (nomatch h), fun _ _ _ => rfl⟩

theorem WellFormedOperands.txLost : Statement .txLost :=
  ⟨fun _ h => (nomatch h), fun _ _ h => (nomatch h), fun _ _ h => (nomatch h), fun _ _ _ => rfl⟩

theorem WellFormedOperands.txFaulted (kind : FaultKind) (afterTag : Bool) : Statement (.txFaulted kind afterTag) := by
  refine ⟨fun _ h => (nomatch h), ?_, fun _ _ h => (nomatch h), fun _ h => absurd rfl (h _ _)⟩
  intro k a h
  cases h
  change txFaultWf kind afterTag = true ↔ _
  cases kind <;> simp [txFaultWf]

theorem WellFormedOperands.rxFault (kind : FaultKind) (tag : Option Tag) : Statement (.rxFault kind tag) := by
  refine ⟨fun _ h => (nomatch h), fun _ _ h => (nomatch h), ?_, fun _ _ h => absurd rfl (h _ _)⟩
  intro k t h
  cases h
  change rxFaultWf kind tag = true ↔ _
  cases kind <;> cases tag <;> simp [rxFaultWf]

theorem WellFormedOperands.stopComplete : Statement .stopComplete :=
  ⟨fun _ h => (nomatch h), fun _ _ h => (nomatch h), fun _ _ h => (nomatch h), fun _ _ _ => rfl⟩

theorem WellFormedOperands.syncComplete : Statement .syncComplete :=
  ⟨fun _ h => (nomatch h), fun _ _ h => (nomatch h), fun _ _ h => (nomatch h), fun _ _ _ => rfl⟩

theorem WellFormedOperands.recoveryInterval : Statement .recoveryInterval :=
  ⟨fun _ h => (nomatch h), fun _ _ h => (nomatch h), fun _ _ h => (nomatch h), fun _ _ _ => rfl⟩

theorem WellFormedOperands.busStuck : Statement .busStuck :=
  ⟨fun _ h => (nomatch h), fun _ _ h => (nomatch h), fun _ _ h => (nomatch h), fun _ _ _ => rfl⟩

theorem WellFormedOperands.periodExpiry (slot : SlotNo) : Statement (.periodExpiry slot) :=
  ⟨fun _ h => (nomatch h), fun _ _ h => (nomatch h), fun _ _ h => (nomatch h), fun _ _ _ => rfl⟩

theorem WellFormedOperands.deadlineExpiry (slot : SlotNo) : Statement (.deadlineExpiry slot) :=
  ⟨fun _ h => (nomatch h), fun _ _ h => (nomatch h), fun _ _ h => (nomatch h), fun _ _ _ => rfl⟩

theorem WellFormedOperands.partClockAdvance : Statement .partClockAdvance :=
  ⟨fun _ h => (nomatch h), fun _ _ h => (nomatch h), fun _ _ h => (nomatch h), fun _ _ _ => rfl⟩

theorem WellFormedOperands.startBitRead : Statement .startBitRead :=
  ⟨fun _ h => (nomatch h), fun _ _ h => (nomatch h), fun _ _ h => (nomatch h), fun _ _ _ => rfl⟩

end Sys2Proof.Laws
end

