-- ==== Sys2Proof/Laws/Units.lean ====
section
/-! SUPPORT. What the shared operations of the acceptance unit, the selector and the engine leave alone. -/

namespace Sys2Proof.Machine

-- One theorem after the other: the file then needs one thread, not one for each proof.
set_option Elab.async false

/-! ### An event of the engine (R123) -/

/-- The engine becomes as given, and the notice set takes at most one STATE event. -/
theorem State.engineEvent_cases (s : State) (e : Engine) :
    s.engineEvent e = s.setEngine e ∨
      s.engineEvent e = (s.setEngine e).raise .state
        (.state e.state e.standing e.recoveryOwed e.busStuck) := by
  unfold State.engineEvent State.raiseStateIfChanged
  split
  · exact .inr rfl
  · exact .inl rfl

@[simp] theorem State.engineEvent_engine (s : State) (e : Engine) : (s.engineEvent e).engine = e := by
  rcases s.engineEvent_cases e with h | h <;> rw [h] <;> simp

@[simp] theorem State.engineEvent_slots (s : State) (e : Engine) : (s.engineEvent e).slots = s.slots := by
  rcases s.engineEvent_cases e with h | h <;> rw [h] <;> simp

@[simp] theorem State.engineEvent_txBuffer (s : State) (e : Engine) :
    (s.engineEvent e).txBuffer = s.txBuffer := by
  rcases s.engineEvent_cases e with h | h <;> rw [h] <;> simp

@[simp] theorem State.engineEvent_link (s : State) (e : Engine) : (s.engineEvent e).link = s.link := by
  rcases s.engineEvent_cases e with h | h <;> rw [h] <;> simp

@[simp] theorem State.engineEvent_diag (s : State) (e : Engine) : (s.engineEvent e).diag = s.diag := by
  rcases s.engineEvent_cases e with h | h <;> rw [h] <;> simp

@[simp] theorem State.engineEvent_catchQ (s : State) (e : Engine) :
    (s.engineEvent e).catchQ = s.catchQ := by
  rcases s.engineEvent_cases e with h | h <;> rw [h] <;> simp

@[simp] theorem State.engineEvent_clock (s : State) (e : Engine) : (s.engineEvent e).clock = s.clock := by
  rcases s.engineEvent_cases e with h | h <;> rw [h] <;> simp

@[simp] theorem State.engineEvent_slot (s : State) (e : Engine) (n : SlotNo) :
    (s.engineEvent e).slot n = s.slot n := by
  simp [State.slot_eq]

/-! ### The end of a fault burst and the advance of the part clock (R106, R116, R119) -/

/-- A burst that is surely over ends STOPPING or leaves the engine in the delimiter; else nothing happens. -/
theorem State.takePassedBurst_cases (s : State) :
    (s.engine.burstPassed = false ∧ s.takePassedBurst = s) ∨
    (s.engine.burstPassed = true ∧ s.engine.state = .stopping ∧
      s.takePassedBurst = s.engineEvent (s.engine.leave .offline)) ∨
    (s.engine.burstPassed = true ∧ s.engine.state ≠ .stopping ∧
      s.takePassedBurst = s.setEngine { s.engine with phase := .delimiter }) := by
  unfold State.takePassedBurst
  split
  · next hb =>
    have hi : s.engine.inBurst = true := by
      unfold Engine.burstPassed at hb; unfold Engine.inBurst; split at hb <;> simp_all
    split
    · next hs => exact .inr (.inl ⟨hb, hs, by simp [State.stopComplete, hs, hi]⟩)
    · next hs => exact .inr (.inr ⟨hb, hs, rfl⟩)
  · next hb => exact .inl ⟨by simpa using hb, rfl⟩

@[simp] theorem Engine.tick_state (e : Engine) : e.tick.state = e.state := rfl
@[simp] theorem Engine.tick_mode (e : Engine) : e.tick.mode = e.mode := rfl
@[simp] theorem Engine.tick_rate (e : Engine) : e.tick.rate = e.rate := rfl
@[simp] theorem Engine.tick_samplePoint (e : Engine) : e.tick.samplePoint = e.samplePoint := rfl
@[simp] theorem Engine.tick_txCount (e : Engine) : e.tick.txCount = e.txCount := rfl
@[simp] theorem Engine.tick_rxCount (e : Engine) : e.tick.rxCount = e.rxCount := rfl
@[simp] theorem Engine.tick_recoveryOwed (e : Engine) : e.tick.recoveryOwed = e.recoveryOwed := rfl
@[simp] theorem Engine.tick_progress (e : Engine) : e.tick.progress = e.progress := rfl
@[simp] theorem Engine.tick_busStuck (e : Engine) : e.tick.busStuck = e.busStuck := rfl
@[simp] theorem Engine.tick_lastFault (e : Engine) : e.tick.lastFault = e.lastFault := rfl
@[simp] theorem Engine.tick_suspensionOwed (e : Engine) : e.tick.suspensionOwed = e.suspensionOwed := rfl
@[simp] theorem Engine.tick_phase (e : Engine) : e.tick.phase = e.phase.tick := rfl

/-- An advance of the part clock turns no phase into another but for what a burst notes. -/
theorem BusPhase.tick_eq_self {p : BusPhase} (h : ∀ active, p ≠ .burst active false) : p.tick = p := by
  cases p with
  | burst active ticked => cases ticked <;> first | rfl | exact absurd rfl (h active)
  | _ => rfl

/-! ### The fate of a frame (R27) -/

/-- What a fate can be: a clash, a claim by one slot (stored, refused by length, answered or seen), the catch
queue, or the unclaimed counter. -/
theorem State.accept_cases (s : State) (f : BusFrame) (sender : Option SlotNo) :
    (∃ n, s.accept f sender = s.clash f.tag n) ∨
    (∃ n payload, f.body = .publish payload ∧ s.accept f sender = s.claimPublish n f.tag payload) ∨
    (∃ n, f.body = .query ∧ s.accept f sender = s.claimQuery n f.tag) ∨
    s.accept f sender = s.unclaimed f := by
  unfold State.accept
  split
  · next payload hb =>
    split
    · next n _ => exact .inl ⟨n, rfl⟩
    · split
      · next n _ => exact .inr (.inl ⟨n, payload, hb, rfl⟩)
      · exact .inr (.inr (.inr rfl))
  · next hb =>
    split
    · next n _ => exact .inr (.inr (.inl ⟨n, hb, rfl⟩))
    · exact .inr (.inr (.inr rfl))

/-- A fate reaches neither the engine, the link, the clock, the transmit buffer nor the model's own fields. -/
theorem State.accept_frame (s : State) (f : BusFrame) (sender : Option SlotNo) :
    (s.accept f sender).engine = s.engine ∧ (s.accept f sender).link = s.link ∧
    (s.accept f sender).clock = s.clock ∧ (s.accept f sender).txBuffer = s.txBuffer ∧
    (s.accept f sender).maskA = s.maskA ∧ (s.accept f sender).maskB = s.maskB ∧
    (s.accept f sender).freeCount = s.freeCount ∧ (s.accept f sender).pending = s.pending := by
  rcases s.accept_cases f sender with ⟨n, h⟩ | ⟨n, p, _, h⟩ | ⟨n, _, h⟩ | h <;> rw [h]
  · simp [State.clash]
  · unfold State.claimPublish State.store; split <;> simp
  · unfold State.claimQuery; split <;> simp
  · unfold State.unclaimed State.catchFrame State.catchAppend State.catchDrop State.countUnclaimed
    split
    · split <;> simp
    · simp

/-! ### The taking of an outcome (R58) -/

/-- An outcome writes its slot, empties the buffer and reaches the notice set; nothing else changes. -/
theorem State.settle_frame (s : State) (rec : TxRecord) (o : Outcome) :
    (s.settle rec o).txBuffer = none ∧
    (s.settle rec o).slots = (s.setSlot rec.slot
      ((s.slot rec.slot).outcome o (frameKind rec.frame) s.clock).endFrame).slots ∧
    (s.settle rec o).engine = s.engine ∧ (s.settle rec o).link = s.link ∧
    (s.settle rec o).clock = s.clock ∧ (s.settle rec o).diag = s.diag ∧
    (s.settle rec o).catchQ = s.catchQ ∧ (s.settle rec o).maskA = s.maskA ∧
    (s.settle rec o).maskB = s.maskB ∧ (s.settle rec o).freeCount = s.freeCount ∧
    (s.settle rec o).pending = s.pending := by
  have key : ∀ (k : FrameKind) (x y : Slot),
      ∃ nt, (s.raiseOutcome rec.slot o k x y).raiseMarks rec.slot o k y = s.setNotices nt := by
    intro k x y
    have r : ∀ (u : State) (p : Pair) (d : Detail), (∃ nt, u = s.setNotices nt) →
        ∃ nt, u.raise p d = s.setNotices nt := by
      rintro u p d ⟨nt, rfl⟩
      exact ⟨_, State.raise_eq _ p d⟩
    have h0 : ∃ nt, s = s.setNotices nt := ⟨s.notices, rfl⟩
    have h1 : ∃ nt, s.raiseOutcome rec.slot o k x y = s.setNotices nt := by
      unfold State.raiseOutcome
      cases o <;> first | exact h0 | exact r _ _ _ h0
    have h2 : ∀ u, (∃ nt, u = s.setNotices nt) →
        ∃ nt, u.raiseAborted rec.slot o k y = s.setNotices nt := by
      intro u hu
      unfold State.raiseAborted
      cases o <;> first | exact hu | exact r _ _ _ hu
    unfold State.raiseMarks
    split
    · exact r _ _ _ (h2 _ h1)
    · split
      · exact h2 _ h1
      · exact h1
  obtain ⟨nt, h⟩ := key (frameKind rec.frame) (s.slot rec.slot)
    ((s.slot rec.slot).outcome o (frameKind rec.frame) s.clock)
  simp only [State.settle, h]
  exact ⟨rfl, rfl, rfl, rfl, rfl, rfl, rfl, rfl, rfl, rfl, rfl⟩

end Sys2Proof.Machine
end

