-- ==== Sys2Proof/Laws/Wire.lean ====
section
/-! SUPPORT. What the waits after a frame come to on a passive line and on one held active. -/

namespace Sys2Proof.Machine

-- One theorem after the other: the file then needs one thread, not one for each proof.
set_option Elab.async false

/-- R88, R98, R102: on a passive line the waits are over after exactly the bits owed. -/
theorem Engine.waitAfter_bitsOwed {e : Engine} (hr : e.phase ≠ .receiving) (hs : e.phase ≠ .sending) :
    e.waitAfter (List.replicate e.bitsOwed true) = some .idle := by
  unfold Engine.waitAfter Engine.bitsOwed Engine.suspensionBits Engine.bitsBeforeDelimiter
  cases hp : e.phase <;> first | exact absurd hp hr | exact absurd hp hs | skip
  all_goals
    cases e.suspensionOwed <;> by_cases hm : e.mode = .listen <;> simp only [hm] <;> rfl

/-- R98: a delimiter is begun afresh by every active bit. -/
theorem Wait.delimiter_active (owed : Bool) (left n : Nat) :
    (List.replicate (n + 1) false).foldl (Wait.bit owed) (.delimiter left)
      = .delimiter Config.delimiterLength := by
  induction n generalizing left with
  | zero => rfl
  | succ n ih => exact ih Config.delimiterLength

/-- R98: a line held active after a fault never completes the delimiter. -/
theorem Engine.waitAfter_stuck {e : Engine} (h : e.phase = .delimiter ∨ ∃ a k, e.phase = .burst a k) (n : Nat) :
    e.waitAfter (List.replicate n false) = some (.delimiter Config.delimiterLength) := by
  have key : ((List.replicate n false).drop e.bitsBeforeDelimiter).foldl (Wait.bit e.suspensionOwed)
      (.delimiter Config.delimiterLength) = .delimiter Config.delimiterLength := by
    rw [List.drop_replicate]
    cases n - e.bitsBeforeDelimiter with
    | zero => rfl
    | succ k => exact Wait.delimiter_active _ _ k
  rcases h with h | ⟨a, k, h⟩ <;> simp only [Engine.waitAfter, h, key]

/-- R88: after the delimiter an active bit is a start bit. -/
theorem Wait.bit_active_starts (owed : Bool) {w : Wait} (h : ∀ left, w ≠ .delimiter left) :
    w.bit owed false = .start := by
  cases w <;> first | rfl | exact absurd rfl (h _)

end Sys2Proof.Machine
end

