-- ==== Sys2Proof/Tests/Slice0.lean ====
section
/-! SUPPORT. Small tests, one step each on a small state, with results from the spec's rules and worked
examples; the operand checks; and for each statement with hypotheses the states that meet them. -/

namespace Sys2Proof.Tests

-- One theorem after the other: the file then needs one thread, not one for each proof.
set_option Elab.async false

open Sys2Proof Sys2Proof.Machine

/-! ### Small states -/

/-- The part after power-up with its HELLO sent. -/
def bare : State := { State.reset with link := { State.reset.link with helloOwed := none } }

/-- A state with one request in the inbox and nothing else on the link. -/
def asking (s : State) (kind : Byte) (body : List Byte) : State :=
  { s with link := { bare.link with inbox := [⟨kind, 7, body⟩] } }

/-- The engine in a state and in the middle of a phase. -/
def engineAt (st : EngineState) (phase : BusPhase) (s : State) : State :=
  { s with engine := { s.engine with state := st, phase := phase } }

/-- 03_transmission.md, Example: slot 3 of the worked example, enabled. -/
def pub : Slot :=
  { Slot.reset with
    cfg := { role := .publish, tag := 0x000400, mtch := .exact, length := .exact 2, interval := 100,
             retryLimit := .limit 2, answer := true, notify := true }
    life := .enabled, payload := [0x11, 0x22], timer := .running 100 }

/-- 02_acceptance_and_reception.md, Example: slot 5 of the worked example, enabled. -/
def sub : Slot :=
  { Slot.reset with
    cfg := { role := .subscribe, tag := 0x01A200, mtch := .maskA, length := .exact 2, interval := 500,
             retryLimit := .limit 0, answer := false, notify := true }
    life := .enabled, timer := .running 500 }

/-- The publish slot on the bus, its frame with the engine. -/
def sending (x : Slot) : State :=
  { engineAt .active .sending (bare.setSlot 3 { x with tx := .onBus, reasons := ⟨true, false, false⟩ }) with
    txBuffer := some ⟨3, ⟨0x000400, .publish [0x11, 0x22]⟩⟩ }

/-- The state that a command leaves, where it leaves one. -/
def after (c : Instr) (s : State) : Option State :=
  match exec c s with
  | .next t => some t
  | _ => none

/-- A value read from the state that a command leaves. -/
def read {α : Type} (c : Instr) (s : State) (f : State → α) : Option α := (after c s).map f

/-- The result of the newest waiting reply and the fields after it. -/
def reply (s : State) : List Byte :=
  match s.link.waiting.getLast? with
  | some (.reply _ f) => (f.drop 5).take (f.length - 7)
  | _ => []

/-! ### The operand checks (WellFormed): one ill-formed term for each -/

theorem test_wf_payload_of_17 : (Instr.frameEnd ⟨0, .publish (List.replicate 17 0)⟩).wf = false := by decide
theorem test_wf_payload_of_16 : (Instr.frameEnd ⟨0, .publish (List.replicate 16 0)⟩).wf = true := by decide
theorem test_wf_transmitter_coding : (Instr.txFaulted .coding true).wf = false := by decide
theorem test_wf_transmitter_check : (Instr.txFaulted .check true).wf = false := by decide
theorem test_wf_form_before_tag : (Instr.txFaulted .form false).wf = false := by decide
theorem test_wf_noAck_before_tag : (Instr.txFaulted .noAck false).wf = false := by decide
theorem test_wf_receiver_noAck : (Instr.rxFault .noAck (some 0)).wf = false := by decide
theorem test_wf_receiver_bitPassive : (Instr.rxFault .bitPassive (some 0)).wf = false := by decide
theorem test_wf_receiver_form_before_tag : (Instr.rxFault .form none).wf = false := by decide
theorem test_wf_receiver_check_before_tag : (Instr.rxFault .check none).wf = false := by decide
theorem test_wf_receiver_bitActive_before_tag : (Instr.rxFault .bitActive none).wf = false := by decide

/-- An ill-formed command stops, and a well-formed one does not. -/
theorem test_ill_formed_commands_fault :
    exec (.frameEnd ⟨0, .publish (List.replicate 17 0)⟩) bare = .fault .illFormedCommand ∧
    exec (.txFaulted .coding true) bare = .fault .illFormedCommand ∧
    exec (.rxFault .noAck none) bare = .fault .illFormedCommand := ⟨rfl, rfl, rfl⟩

/-- No word spells a command. -/
theorem test_no_word_spells_a_command : decodeTableWord 0 0 = none := rfl

/-! ### The bus and the line: numbers the spec gives -/

/-- R90: the check over the nine characters 1 to 9 is 0x29B1. -/
theorem test_crc_of_digits :
    hostCrc [0x31, 0x32, 0x33, 0x34, 0x35, 0x36, 0x37, 0x38, 0x39] = 0x29B1 := by decide +kernel

/-- 05, Example: a QUERY for 0x000400 takes 45 bits to the end of its check, three of them fill bits, the first
at bit 7. -/
theorem test_query_000400_on_the_line :
    (fill (spanBits ⟨0x000400, .query⟩)).length = 45 ∧
    (fill (spanBits ⟨0x000400, .query⟩)).take 8
      = [false, false, false, false, false, false, true, false] := by decide +kernel

/-- 05, Example: nobody acknowledges it, and its sender finds NO_ACK at the ack slot, after the tag. -/
theorem test_lone_node_meets_noAck :
    transmitterCommand ⟨0x000400, .query⟩ ((lineBits false ⟨0x000400, .query⟩).take 46)
      = some (.txFaulted .noAck true) := by decide +kernel

/-- 05, Example: three frames start together, and the PUBLISH for 0x000400 loses to 0x000380. -/
theorem test_lower_tag_wins :
    transmitterCommand ⟨0x000400, .publish []⟩ (lineBits true ⟨0x000380, .publish []⟩)
      = some .txLost := by decide +kernel

/-- 06, Example: a quiet interval of 12 bits at 100 kbit/s, and 41 of them in 500 bits. -/
theorem test_quiet_intervals :
    quietIntervals 0 (List.replicate 500 true) = (41, 8) := by decide +kernel

/-- 05, Example: a lone node's NO_ACK at bit 46 is followed by the burst to bit 54, the delimiter to 62, the gap to
65, and in RESTRAINED standing the suspension to 73. -/
theorem test_waits_after_noAck :
    let e (owed : Bool) : Engine := { Engine.reset with state := .active, phase := .burst (!owed) false, suspensionOwed := owed }
    46 + (e false).bitsOwed = 65 ∧ 46 + (e true).bitsOwed = 73 ∧
    (e false).waitAfter (List.replicate 8 false ++ List.replicate 8 true) = some (.gap 3) ∧
    (e true).waitAfter (List.replicate 26 true) = some (.suspension 1) ∧
    (e true).waitAfter (List.replicate 27 true) = some .idle := by decide +kernel

/-- R166: in LISTEN the delimiter's count starts at the bit after the fault. -/
theorem test_listen_waits_from_the_fault :
    ({ Engine.reset with state := .active, mode := .listen, phase := .burst false false } : Engine).waitAfter
      (List.replicate 8 true) = some (.gap 3) := by decide +kernel

/-- 05, Example: the part receives the QUERY for 0x000400, whose ack slot is bit 46, and drives that bit alone. -/
theorem test_busTx_acks_at_bit_46 :
    let s := engineAt .active .receiving bare
    let f : BusFrame := ⟨0x000400, .query⟩
    s.busTx ((lineBits true f).take 44) = true ∧ s.busTx ((lineBits true f).take 45) = false ∧
    s.busTx ((lineBits true f).take 46) = true := by decide +kernel

/-- R90, R93: one bit of the check differs: the part drives no bit of such a frame. -/
theorem test_busTx_no_ack_of_bad_check :
    let s := engineAt .active .receiving bare
    let span := fill (spanBits ⟨0x000400, .query⟩)
    let bad := span.take 44 ++ [!(span.getD 44 true)]
    (List.range 46).all (fun n => s.busTx (bad.take n)) = true := by decide +kernel

/-- R144: 0x5A on the line, least significant bit first; and a line held low. -/
theorem test_serial_line :
    serialLine [0x5A] = [false, false, true, false, true, true, false, true, false, true] ∧
    serialRead (List.replicate 25 false) = [0x00, 0x00] := by decide +kernel

/-! ### Resets -/

/-- R1, R144: both pins high give 921600 baud, and a HELLO becomes owed. -/
theorem test_powerUp : read (.powerUp true true) (sending pub) (fun t => (t.link.baud, t.link.helloOwed, t.txBuffer))
    = some (.b921600, some .powerUp, none) := by decide +kernel

/-- R159: the reply is OK, and the processor takes no more. -/
theorem test_restart : read .restart (asking bare 0x02 []) (fun t => (reply t, t.link.processor))
    = some ([0x00], .restartReplyWaiting) := by decide +kernel

/-- A state whose RESTART reply is on the line. -/
def restarting : State :=
  { sending pub with clock := 77, link := { bare.link with processor := .restartReplyOnLine, baud := .b460800 } }

/-- R14, R159: the clock and the rate stay, the slots go. -/
theorem test_restartTakeEffect :
    read .restartTakeEffect restarting (fun t => (t.clock, t.link.baud, (t.slot 3).life, t.link.helloOwed))
      = some (77, .b460800, .disabled, some .restart) := by decide +kernel

/-! ### Requests -/

theorem test_identify : read .identify (asking bare 0x01 []) reply
    = some [0x00, 0x01, 0x57, 0x00, 0x24, 0x01, 0x18, 0x08, 0x10, 0x04, 0x08] := by decide +kernel

theorem test_setTiming : read .setTiming (asking bare 0x03 [5, 85]) (fun t => (t.engine.rate, t.engine.samplePoint, reply t))
    = some (.k800, .p85, [0x00, 5, 85]) := by decide +kernel

/-- R164: not while ACTIVE. -/
theorem test_setMode_active : read .setMode (asking (engineAt .active .quiet bare) 0x04 [2]) (fun t => (t.engine.mode, reply t))
    = some (.normal, [0x20]) := by decide +kernel

/-- 06, Example: GO_ONLINE in WITHDRAWN begins recovery with the mark still set. -/
theorem test_goOnline_withdrawn :
    read .goOnline (asking { bare with engine := { bare.engine with state := .withdrawn, txCount := 228, recoveryOwed := true } }
      0x05 []) (fun t => (t.engine.state, t.engine.progress, t.engine.txCount, reply t))
      = some (.recovering, 0, 228, [0x00, 5, 1]) := by decide +kernel

/-- R118: with a frame in progress the engine finishes it first. -/
theorem test_goOffline_in_a_frame :
    read .goOffline (asking (engineAt .active .receiving bare) 0x06 []) (fun t => (t.engine.state, reply t))
      = some (.stopping, [0x01, 3, 0]) := by decide +kernel

theorem test_engineStatus :
    read .engineStatus (asking { bare with engine := { bare.engine with state := .active, txCount := 112, rxCount := 64 } }
      0x07 []) (fun t => (reply t).take 5) = some [0x00, 2, 2, 112, 64] := by decide +kernel

/-- R171: the reply shows the counters before the clear. -/
theorem test_diagCounts :
    read .diagCounts (asking { bare with diag := { DiagCounters.zero with framesSent := 258 } } 0x08 [1])
      (fun t => ((reply t).take 3, t.diag.framesSent)) = some ([0x00, 1, 2], 0) := by decide +kernel

theorem test_setMasks :
    read .setMasks (asking bare 0x09 [0xFF, 0xFF, 0x00, 0x00, 0x00, 0xF0]) (fun t => (t.maskA, t.maskB))
      = some (0xFFFF00, 0x0000F0) := by decide +kernel

/-- R15: a publish slot of length 2 starts with a payload of two zero bytes. -/
theorem test_configSlot :
    read .configSlot (asking bare 0x0A [3, 1, 0x00, 0x04, 0x00, 0, 2, 0, 100, 2, 1, 1])
      (fun t => ((t.slot 3).cfg, (t.slot 3).payload, reply t)) = some (pub.cfg, [0, 0], [0x00, 3]) := by decide +kernel

/-- R3, R147: ANY is out of range for PUBLISH, and the length is field 4. -/
theorem test_configSlot_any_for_publish :
    read .configSlot (asking bare 0x0A [3, 1, 0x00, 0x04, 0x00, 0, 0xFF, 0, 100, 2, 1, 1]) reply
      = some [0x12, 4] := by decide +kernel

theorem test_enableSlot :
    read .enableSlot (asking (bare.setSlot 3 { pub with life := .disabled, timer := .stopped }) 0x0B [3])
      (fun t => ((t.slot 3).life, (t.slot 3).timer)) = some (.enabled, .running 100) := by decide +kernel

/-- R17: an ON_BUS slot drains. -/
theorem test_disableSlot_on_bus :
    read .disableSlot (asking (sending pub) 0x0C [3]) (fun t => ((t.slot 3).life, (t.slot 3).tx, reply t))
      = some (.draining, .onBus, [0x01, 3, 2]) := by decide +kernel

/-- 03, Example, 1000: WRITE_SLOT without send while ON_BUS leaves the snapshot as it was. -/
theorem test_writeSlot_on_bus :
    read .writeSlot (asking (sending pub) 0x0D [3, 0, 2, 0x33, 0x44])
      (fun t => ((t.slot 3).payload, t.txBuffer.map (fun r => r.frame.body), reply t))
      = some ([0x33, 0x44], some (.publish [0x11, 0x22]), [0x00, 3, 2, 0]) := by decide +kernel

/-- R19: the consuming read shows the record before the consume. -/
theorem test_readSlot_consumes :
    read .readSlot (asking (bare.setSlot 5 { sub with dataState := .fresh, overrun := 9 }) 0x0E [5, 1])
      (fun t => ((t.slot 5).dataState, (t.slot 5).overrun, ((reply t).drop 24).take 3))
      = some (.seen, 0, [1, 0, 9]) := by decide +kernel

/-- 03, Example, 1002: SEND_SLOT while ON_BUS sets the again mark. -/
theorem test_sendSlot_on_bus :
    read .sendSlot (asking (sending pub) 0x0F [3]) (fun t => ((t.slot 3).again, reply t))
      = some (true, [0x00, 3, 2, 1]) := by decide +kernel

theorem test_querySlot_idle :
    read .querySlot (asking (bare.setSlot 5 sub) 0x10 [5]) (fun t => ((t.slot 5).tx, (t.slot 5).reasons))
      = some (.pending, ⟨false, false, true⟩) := by decide +kernel

/-- 03, Example, the last lines: ABORT_SLOT while ON_BUS is DEFERRED and sets the abort mark. -/
theorem test_abortSlot_on_bus :
    read .abortSlot (asking (sending pub) 0x11 [3]) (fun t => ((t.slot 3).abort, (t.slot 3).tx, reply t))
      = some (true, .onBus, [0x01, 3, 2, 1]) := by decide +kernel

/-- The catch queue of 04's example, with a given number of records. -/
def catching (fill overflow : Nat) : State :=
  { bare with
    clock := 2120
    catchQ := { enable := true, mask := 0xFF0000, pattern := 0x030000, overflow := overflow,
                queue := (List.range fill).map fun n => ⟨⟨0x030000 + BitVec.ofNat 24 n, .query⟩, 2000⟩ } }

/-- 04, Example, 2145. -/
theorem test_setCatch_flush :
    read .setCatch (asking (catching 8 2) 0x12 [1, 0xFF, 0, 0, 0x03, 0, 0, 1]) (fun t => (t.catchQ.queue.length, reply t))
      = some (0, [0x00, 1, 0xFF, 0, 0, 0x03, 0, 0, 0, 0, 0]) := by decide +kernel

/-- 04, Example, 2125: fill 7 and overflow 1 in the reply. -/
theorem test_takeCatch :
    read .takeCatch (asking (catching 8 1) 0x13 [0]) (fun t => (t.catchQ.queue.length, reply t))
      = some (7, [0x00, 0x03, 0, 0, 1, 0, 0, 0, 0x07, 0xD0, 7, 0, 1]) := by decide +kernel

/-- 04, Example, 2135: a peek keeps the record. -/
theorem test_takeCatch_peek :
    read .takeCatch (asking (catching 8 1) 0x13 [1]) (fun t => (t.catchQ.queue.length, (reply t).drop 10))
      = some (8, [8, 0, 1]) := by decide +kernel

theorem test_noticeControl :
    read .noticeControl (asking (bare.setSlot 3 pub) 0x14 [1, 0, 1, 1, 1, 3, 0])
      (fun t => (t.notices.gate, (t.slot 3).cfg.notify, reply t)) = some (true, false, [0x00, 1, 0, 1, 1, 1, 4, 0, 0, 0]) := by decide +kernel

/-- 07, Example: the entries of the backlog. -/
def backlog (pending : List (Pair × Entry)) (outstanding : List (Pair × Numbered)) (next : Byte) : State :=
  { bare with notices := { bare.notices with gate := true, window := 3, nextNumber := next,
                                             pending := pending, outstanding := outstanding } }

def stateEntry : Entry := ⟨2, 5, .state .active .normal false false⟩
def receivedEntry : Entry := ⟨12, 6, .received 0x000100 2 9⟩
def sentEntry : Entry := ⟨1, 7, .sent .query ⟨false, false, true⟩ 0 0⟩
def staleEntry : Entry := ⟨1, 8, .stale 3⟩
def arrivalEntry : Entry := ⟨3, 9, .arrival 3 0x030000 .query⟩

/-- 07, Example, step 5: ACK_NOTICES for 11 and 12 leaves 1 outstanding and 3 pending. -/
theorem test_ackNotices :
    read .ackNotices (asking (backlog [(.slot 4 .received, receivedEntry), (.slot 7 .stale, staleEntry), (.arrival, arrivalEntry)]
        [(.state, ⟨stateEntry, 10⟩), (.slot 4 .received, ⟨receivedEntry, 11⟩), (.slot 4 .sent, ⟨sentEntry, 12⟩)] 13)
      0x15 [0xFF, 11, 12]) reply = some [0x00, 2, 3, 1, 3] := by decide +kernel

/-- R140: counts add, the first stamp is the older, the detail the pending one's. -/
theorem test_resyncNotices :
    read .resyncNotices (asking (backlog [(.slot 7 .stale, ⟨4, 20, .stale 11⟩)] [(.slot 7 .stale, ⟨staleEntry, 14⟩)] 15) 0x16 [])
      (fun t => (keyedGet (.slot 7 .stale) t.notices.pending, t.notices.outstanding.length))
      = some (some ⟨5, 8, .stale 11⟩, 0) := by decide +kernel

theorem test_requestUnknownKind :
    read .requestUnknownKind (asking bare 0x17 [1, 2, 3]) reply = some [0x10] := by decide +kernel

/-! ### The link's own events -/

/-- R145: SYNC, LEN 2, KIND 0x01, SEQ 7 and the check over the last three. -/
theorem test_hostFrameReceived :
    read (.hostFrameReceived (envelope 0x01 7 [])) bare (fun t => t.link.inbox) = some [⟨0x01, 7, []⟩] ∧
    (envelope 0x01 7 []).take 4 = [0x5A, 0x02, 0x01, 0x07] := by decide +kernel

/-- R149: a 0x5A that fails as LEN is the SYNC of a new frame. -/
theorem test_lengthFault :
    read (.lengthFault [0x11, 0x5A, 0x5A]) bare (fun t => (t.link.counters.lengthFaults, t.link.framer.buf))
      = some (1, [0x5A]) := by decide +kernel

theorem test_gapTimeout :
    read (.gapTimeout [0x5A, 62]) bare (fun t => (t.link.counters.gapTimeouts, t.link.framer.buf))
      = some (1, []) := by decide +kernel

/-- R148: KIND 0x83, SEQ 0, cause POWER_UP, revision 1, the clock. -/
theorem test_helloBegin :
    read .helloBegin { State.reset with clock := 0x01020304 } (fun t => (t.link.hostOut.map (fun f => f.take 10), t.link.helloOwed))
      = some (some [0x5A, 8, 0x83, 0, 0, 1, 1, 2, 3, 4], none) := by decide +kernel

/-- A state with items that wait for the line. -/
def waiting (items : List OutItem) (p : Processor) : State :=
  { bare with link := { bare.link with waiting := items, processor := p } }

/-- R154: beginning a fresh reply frees the processor. -/
theorem test_replyBegin :
    read .replyBegin (waiting [.reply true [1, 2]] .replyWaiting) (fun t => (t.link.hostOut, t.link.processor))
      = some (some [1, 2], .free) := by decide +kernel

/-- R148: KIND 0x81, SEQ 0 and a body of reason CHECK, SEQ unknown, kind 0. -/
theorem test_rejectBegin :
    read .rejectBegin (waiting [.reject ⟨.check, 0, true, 0⟩] .free) (fun t => t.link.hostOut.map (fun f => f.take 7))
      = some (some [0x5A, 5, 0x81, 0, 0, 1, 0]) := by decide +kernel

/-- 07, Example, step 1: the STATE entry goes first, under 10. -/
theorem test_noticeDelivery :
    read .noticeDelivery (backlog [(.state, stateEntry), (.slot 4 .received, receivedEntry)] [] 10)
      (fun t => (t.notices.outstanding, t.notices.pending.length, t.notices.nextNumber))
      = some ([(.state, ⟨stateEntry, 10⟩)], 1, 11) := by decide +kernel

/-- R135: with the counter at 3 and 3 and 4 held, the next entry takes 5. -/
theorem test_noticeDelivery_passes_held_numbers :
    read .noticeDelivery (backlog [(.arrival, arrivalEntry)] [(.state, ⟨stateEntry, 3⟩), (.busFault, ⟨⟨1, 0, .busFault .form .receive⟩, 4⟩)] 3)
      (fun t => (keyedGet .arrival t.notices.outstanding, t.notices.nextNumber))
      = some (some ⟨arrivalEntry, 5⟩, 6) := by decide +kernel

/-! ### The bus -/

/-- The part of 02's example, in LISTEN, at a clock reading. -/
def seven (clock : Stamp) (five : Slot) : State :=
  { ((engineAt .active .receiving bare).setSlot 5 five).setSlot 2
      { pub with cfg := { pub.cfg with tag := 0x01A2F0, length := .exact 4, interval := 0 },
                 payload := [0, 0, 0, 0], timer := .stopped } with
    clock := clock, maskA := 0xFFFF00
    engine := { bare.engine with state := .active, phase := .receiving, mode := .listen } }

/-- 02, Example, 1000: the frame is stored in slot 5. -/
theorem test_frameEnd_stores :
    read (.frameEnd ⟨0x01A240, .publish [1, 2]⟩) (seven 1000 sub)
      (fun t => ((t.slot 5).seq, (t.slot 5).stamp, (t.slot 5).dataState, keyedGet (.slot 5 .received) t.notices.pending))
      = some (1, 1000, .fresh, some ⟨1, 1000, .received 0x01A240 2 1⟩) := by decide +kernel

/-- 02, Example, 1200: slot 2 owes the answer. -/
theorem test_frameEnd_query :
    read (.frameEnd ⟨0x01A2F0, .query⟩) (seven 1200 sub) (fun t => ((t.slot 2).tx, (t.slot 2).reasons))
      = some (.pending, ⟨false, true, false⟩) := by decide +kernel

/-- R55: of two candidates the lower tag is selected, whatever the slot numbers. -/
theorem test_selection :
    read .selection (engineAt .active .gap
        ((bare.setSlot 3 { pub with tx := .pending, reasons := ⟨true, false, false⟩ }).setSlot 20
          { pub with cfg := { pub.cfg with tag := 0x000380 }, tx := .pending, reasons := ⟨true, false, false⟩ }))
      (fun t => t.txBuffer) = some (some ⟨20, ⟨0x000380, .publish [0x11, 0x22]⟩⟩) := by decide +kernel

/-- 03, Example, 1101: Sent; sequence 1 and stamp 1101. -/
theorem test_txSent :
    read .txSent { sending pub with clock := 1101 }
      (fun t => ((t.slot 3).seq, (t.slot 3).stamp, (t.slot 3).tx, keyedGet (.slot 3 .sent) t.notices.pending))
      = some (1, 1101, .idle, some ⟨1, 1101, .sent .publish ⟨true, false, false⟩ 1 0⟩) := by decide +kernel

theorem test_txLost :
    read .txLost (sending pub) (fun t => ((t.slot 3).tx, t.engine.phase, t.engine.txCount, t.diag.arbitrationLosses))
      = some (.pending, .receiving, 0, 1) := by decide +kernel

/-- 03, Example, 1004: the third fault is above the limit of 2. -/
theorem test_txFaulted_exhausts :
    read (.txFaulted .noAck true) (sending { pub with retries := 2 })
      (fun t => ((t.slot 3).tx, (t.slot 3).retries, keyedGet (.slot 3 .sendFailed) t.notices.pending))
      = some (.idle, 0, some ⟨1, 0, .sendFailed .retries .publish ⟨true, false, false⟩ 3⟩) := by decide +kernel

/-- 06, Example: fault 38 takes the count to 228 and the engine to WITHDRAWN. -/
theorem test_txFaulted_withdraws :
    read (.txFaulted .bitActive true) { sending pub with engine := { (sending pub).engine with txCount := 222 } }
      (fun t => (t.engine.state, t.engine.txCount, t.engine.recoveryOwed, (t.slot 3).tx))
      = some (.withdrawn, 228, true, .pending) := by decide +kernel

/-- R108, R112: the 64th count makes the standing CAUTION, with a STATE event after BUS_FAULT. -/
theorem test_rxFault :
    read (.rxFault .check (some 0x000123)) { bare with engine := { bare.engine with state := .active, phase := .receiving, rxCount := 63 } }
      (fun t => (t.engine.rxCount, t.engine.standing, (keyedGet .state t.notices.pending).map (fun e => e.detail)))
      = some (64, .caution, some (.state .active .caution false false)) := by decide +kernel

theorem test_stopComplete :
    read .stopComplete (engineAt .stopping (.burst true false) bare) (fun t => (t.engine.state, t.engine.phase))
      = some (.offline, .quiet) := by decide +kernel

/-- R98, R106, R118: the line stuck active after a fault, two advances of the clock on: no frame is in progress. -/
theorem test_goOffline_stuck_line :
    read .partClockAdvance (engineAt .active (.burst true true) bare) (fun t => t.engine.phase) = some .delimiter ∧
    read .goOffline (asking (engineAt .active .delimiter bare) 0x06 []) (fun t => (t.engine.state, reply t))
      = some (.offline, [0x00, 0, 0]) := by decide +kernel

/-- R119: STOPPING ends although the line is held active. -/
theorem test_stopping_ends_with_its_burst :
    read .partClockAdvance (engineAt .stopping (.burst true true) bare) (fun t => t.engine.state)
      = some .offline := by decide +kernel

theorem test_syncComplete :
    read .syncComplete (engineAt .syncing .quiet bare) (fun t => t.engine.state) = some .active := by decide +kernel

/-- 06, Example: the 64th interval clears both counts and the mark. -/
theorem test_recoveryInterval_64 :
    read .recoveryInterval { bare with engine := { bare.engine with state := .recovering, progress := 63, txCount := 228, recoveryOwed := true } }
      (fun t => (t.engine.state, t.engine.txCount, t.engine.recoveryOwed, t.engine.progress))
      = some (.active, 0, false, 0) := by decide +kernel

theorem test_busStuck :
    read .busStuck { bare with engine := { bare.engine with state := .syncing, watchMs := 1000 } }
      (fun t => t.engine.busStuck) = some true := by decide +kernel

/-- R167: the watch never reaches its 1000 ms in LOOPBACK. -/
theorem test_loopback_watch :
    let s : State := { bare with engine := { bare.engine with state := .recovering, mode := .loopback } }
    read .partClockAdvance s (fun t => t.engine.watchMs) = some 0 ∧
    read .busStuck { s with engine := { s.engine with watchMs := 1000 } } (fun t => t.engine.busStuck)
      = some false := by decide +kernel

/-- 03, Example, 1000: the expiry reloads the timer and adds SEND. -/
theorem test_periodExpiry :
    read (.periodExpiry 3) (bare.setSlot 3 { pub with timer := .due })
      (fun t => ((t.slot 3).tx, (t.slot 3).reasons, (t.slot 3).timer))
      = some (.pending, ⟨true, false, false⟩, .running 100) := by decide +kernel

/-- 02, Example, 1800: the slot is STALE, its timer stopped, detail stamp 1300. -/
theorem test_deadlineExpiry :
    read (.deadlineExpiry 5) (bare.setSlot 5 { sub with timer := .due, dataState := .fresh, stamp := 1300 })
      (fun t => ((t.slot 5).freshness, (t.slot 5).timer, (keyedGet (.slot 5 .stale) t.notices.pending).map (fun e => e.detail)))
      = some (.stale, .stopped, some (.stale 1300)) := by decide +kernel

/-- R14: the clock wraps. -/
theorem test_partClockAdvance :
    read .partClockAdvance { bare.setSlot 3 { pub with timer := .running 1 } with clock := 0xFFFFFFFF }
      (fun t => (t.clock, (t.slot 3).timer)) = some (0, .due) := by decide +kernel

theorem test_startBitRead :
    read .startBitRead { bare with engine := { bare.engine with state := .active, suspensionOwed := true } }
      (fun t => (t.engine.phase, t.engine.suspensionOwed)) = some (.receiving, false) := by decide +kernel

/-! ### States that meet the hypotheses of the statements -/

/-- Whether a command is carried out. -/
def goesOn (o : Out) : Bool :=
  match o with
  | .next _ => true
  | _ => false

/-- A part in the middle of its work: a frame of its own on the bus, a subscription, notices pending and
outstanding, a caught frame, a request, a reject and a fresh reply, and a command that waits. -/
def busy : State :=
  { (sending pub).setSlot 5 sub with
    catchQ := (catching 8 1).catchQ
    notices := (backlog [(.state, stateEntry), (.slot 4 .sent, sentEntry)] [(.state, ⟨stateEntry, 10⟩)] 11).notices
    link := { bare.link with
      inbox := [⟨0x01, 7, []⟩], history := [⟨6, 0x01, [1, 2]⟩], processor := .replyWaiting
      waiting := [.reject ⟨.check, 0, true, 0⟩, .reply true [1, 2]] }
    pending := [.txSent] }

theorem wit_StepTakesTheFrontCommand : busy.pending = .txSent :: [] ∧ bare.pending = [] := ⟨rfl, rfl⟩

theorem wit_RestartFollowsItsReply :
    (asking bare 0x02 []).Takes ⟨0x02, 7, []⟩ ∧ restarting.link.processor = .restartReplyOnLine ∧
    bare.link.processor ≠ .restartReplyOnLine := by decide +kernel

theorem busy_slots_sound : busy.SlotsSound := by
  have h1 : ∀ n, (busy.slot n).cfg.Sound := by decide +kernel
  have h2 : ∀ n, (busy.slot n).RetriesSound := by decide +kernel
  have h3 : ∀ n, (busy.slot n).LifeSound := by decide +kernel
  have h4 : ∀ n, (busy.slot n).DataSound := by decide +kernel
  have h5 : ∀ n, (busy.slot n).CountsSound := by decide +kernel
  have h6 : ∀ n, (busy.slot n).TimerSound := by decide +kernel
  have h7 : busy.BufferSound := by decide +kernel
  exact ⟨fun n => ⟨h1 n, h2 n, h3 n, h4 n, h5 n, h6 n⟩, h7⟩

theorem busy_goes_on : goesOn (step busy) = true := by decide +kernel

theorem wit_StepKeepsTheSlotTableSound : busy.SlotsSound ∧ goesOn (step busy) = true :=
  ⟨busy_slots_sound, busy_goes_on⟩

theorem wit_StepKeepsPublishTagsApart :
    busy.TagsUnique ∧ (busy.slot 3).publishing = true ∧ goesOn (step busy) = true := by decide +kernel

theorem wit_StepKeepsTheEngineSound : busy.EngineSound ∧ goesOn (step busy) = true := by decide +kernel

theorem wit_StepKeepsTheNoticeSetSound : busy.notices.Sound ∧ goesOn (step busy) = true := by decide +kernel

theorem wit_StepKeepsTheHostLinkSound : busy.link.Sound ∧ goesOn (step busy) = true := by decide +kernel

theorem wit_StepKeepsTheCatchQueueSound :
    busy.SlotsSound ∧ busy.catchQ.Sound ∧ goesOn (step busy) = true :=
  ⟨busy_slots_sound, by decide +kernel, busy_goes_on⟩

/-- A step that changes the engine's state with the STATE enable on. -/
theorem wit_EngineStateGoesOnlyWhereListed :
    let s := engineAt .syncing .quiet bare
    s.EngineSound ∧ keyedWf s.notices.pending = true ∧ s.notices.stateEnable = true ∧
    read .syncComplete s (fun t => decide (t.engine.state ≠ s.engine.state)) = some true := by decide +kernel

theorem wit_OnlyTheClockAdvanceMovesTheClock :
    Instr.selection ≠ .partClockAdvance ∧ goesOn (exec .selection busy) = true := by decide +kernel

theorem wit_ConfigurationIsWrittenOnlyWhileDisabled :
    (busy.slot 3).life ≠ .disabled ∧ Instr.selection ≠ .restartTakeEffect ∧ Instr.selection ≠ .noticeControl ∧
    goesOn (exec .selection busy) = true ∧ goesOn (exec .noticeControl busy) = true := by decide +kernel

theorem wit_OnlyAnOutcomeEmptiesTheTransmitBuffer :
    busy.txBuffer = some ⟨3, ⟨0x000400, .publish [0x11, 0x22]⟩⟩ ∧ goesOn (exec .txSent busy) = true ∧
    goesOn (exec .selection busy) = true := by decide +kernel

theorem wit_OnlyResetsAndDiagCountsLowerCounters :
    restarting.link.processor = .restartReplyOnLine ∧ (asking bare 0x08 [1]).Takes ⟨0x08, 7, [1]⟩ ∧
    busy.diag.Sound ∧ Instr.txSent ≠ .diagCounts ∧ goesOn (exec .txSent busy) = true ∧ goesOn (step busy) = true ∧
    (∀ r, (asking busy 0x08 [0]).link.inbox.head? = some r → r.body ≠ [1]) ∧
    goesOn (exec .diagCounts (asking busy 0x08 [0])) = true := by
  refine ⟨by decide +kernel, by decide +kernel, by decide +kernel, by decide +kernel, by decide +kernel,
    by decide +kernel, ?_, by decide +kernel⟩
  intro r h
  cases h
  decide

/-- A request in the inbox leaves the slot table as it was. -/
theorem asking_slots_sound {s : State} (kind : Byte) (body : List Byte) (h : s.SlotsSound) :
    (asking s kind body).SlotsSound := h

theorem wit_EveryRequestTakenIsAnsweredOnce :
    (requestCode .identify = some 0x01 ∧ (asking bare 0x01 []).Takes ⟨0x01, 7, []⟩) ∧
    (requestCode .resyncNotices = some 0x16 ∧ (asking bare 0x16 []).Takes ⟨0x16, 7, []⟩) ∧
    (∀ r, bare.Takes r → r.kind ≠ 0x01) ∧
    (requestCode .querySlot = some 0x10 ∧ (asking busy 0x10 [slotByte 5]).Takes ⟨0x10, 7, [slotByte 5]⟩ ∧
      (asking busy 0x10 [slotByte 5]).SlotsSound) := by
  refine ⟨by decide, by decide, ?_, by decide, by decide, asking_slots_sound _ _ busy_slots_sound⟩
  rintro r ⟨-, h⟩
  exact nomatch h

/-- A body of 11 bytes, one of 13, and one whose first field out of range is field 4. -/
theorem wit_BadBodiesAreRefused :
    requestCode .configSlot = some 0x0A ∧
    bodyLengthOk .configSlot (List.replicate 11 0) = false ∧ bodyLengthOk .configSlot (List.replicate 13 0) = false ∧
    (asking bare 0x0A (List.replicate 11 0)).Takes ⟨0x0A, 7, List.replicate 11 0⟩ ∧
    (let body : List Byte := [23, 2, 0, 0, 0, 2, 17, 0, 0, 16, 0, 0]
     (asking bare 0x0A body).Takes ⟨0x0A, 7, body⟩ ∧ bodyLengthOk .configSlot body = true ∧
     (fieldsInRange .configSlot body)[4]? = some false ∧
     ∀ j < 4, (fieldsInRange .configSlot body)[j]? = some true) := by decide +kernel

/-- A history of four replies. -/
def four : List HistEntry := [⟨1, 1, []⟩, ⟨2, 1, []⟩, ⟨3, 1, []⟩, ⟨4, 1, []⟩]

theorem wit_HistoryKeepsTheFourNewestReplies :
    let e : HistEntry := ⟨5, 1, []⟩
    let again : HistEntry := ⟨2, 3, []⟩
    four.length = 4 ∧ (four.map fun x => x.seq).Nodup ∧ (∀ x ∈ four, x.seq ≠ e.seq) ∧
    four = [⟨1, 1, []⟩] ++ (⟨2, 1, []⟩ : HistEntry) :: [⟨3, 1, []⟩, ⟨4, 1, []⟩] ∧
    (⟨2, 1, []⟩ : HistEntry).seq = again.seq ∧
    (four.take 3).length < 4 ∧ (∀ x ∈ four.take 3, x.seq ≠ e.seq) ∧
    (∃ x ∈ four, x.seq ≠ e.seq ∧ four.head? ≠ some x) := by decide +kernel

theorem wit_IdentifyReportsThePart : (asking bare 0x01 []).Takes ⟨0x01, 7, []⟩ := by decide

theorem wit_UnknownKindsAreRefused :
    (asking bare 0x00 []).Takes ⟨0x00, 7, []⟩ ∧ (asking bare 0x17 []).Takes ⟨0x17, 7, []⟩ ∧
    (asking bare 0xFF []).Takes ⟨0xFF, 7, []⟩ ∧
    (∀ r, (asking bare 0x16 []).Takes r → r.kind ≠ 0 ∧ r.kind.toNat ≤ 0x16) := by
  refine ⟨by decide, by decide, by decide, ?_⟩
  rintro r ⟨-, h⟩
  cases h
  decide

/-- A framer inside a frame, a number of clock advances after its last byte. -/
def inside (n : Nat) : State := { bare with link := { bare.link with framer := ⟨[0x5A], 0xFFFF, n⟩ } }

/-- Every frame comes whole to a hunting framer, and without its SYNC to one that has read it. -/
theorem wit_GoodHostFramesAreTaken_bytes (kind seq : Byte) (body : List Byte) :
    ([] ++ envelope kind seq body = envelope kind seq body ∧ envelope kind seq body ≠ []) ∧
    ([0x5A] ++ (envelope kind seq body).drop 1 = envelope kind seq body ∧ (envelope kind seq body).drop 1 ≠ []) :=
  ⟨⟨rfl, nofun⟩, rfl, nofun⟩

/-- The four tests of a good frame of KIND 0x01 and SEQ 4, with a body of 60 bytes. -/
theorem wit_GoodHostFramesAreTaken :
    let body : List Byte := List.replicate 60 0
    let answered : Link := { bare.link with history := four }
    let queued : Link := { answered with waiting := [.reply false []] }
    let known : Link := { bare.link with inbox := [⟨0x01, 4, body⟩] }
    let full : Link := { bare.link with inbox := List.replicate 4 ⟨0x02, 9, []⟩ }
    let room : Link := { bare.link with inbox := List.replicate 3 ⟨0x02, 9, []⟩ }
    body.length ≤ 60 ∧
    (bare.link.framer.buf = [] ∧ bare.link.framer.Sound ∧ bare.link.framer.sinceLast < 11) ∧
    ((inside 10).link.framer.buf = [0x5A] ∧ (inside 10).link.framer.Sound ∧ (inside 10).link.framer.sinceLast < 11) ∧
    ((inside 11).link.framer.buf ≠ [] ∧ 11 ≤ (inside 11).link.framer.sinceLast) ∧
    answered.history = four.take 3 ++ ⟨4, 1, []⟩ :: [] ∧ (∀ x ∈ four.take 3, ¬ (x.seq = 4 ∧ x.kind = 0x01)) ∧
    OutItem.reply false [] ∈ queued.waiting ∧ answered.waiting = [] ∧
    (∀ x ∈ known.history, ¬ (x.seq = 4 ∧ x.kind = 0x01)) ∧ (∃ q ∈ known.inbox, q.seq = 4 ∧ q.kind = 0x01) ∧
    (∀ q ∈ full.inbox, ¬ (q.seq = 4 ∧ q.kind = 0x01)) ∧ 4 ≤ full.inbox.length ∧
    (∀ q ∈ room.inbox, ¬ (q.seq = 4 ∧ q.kind = 0x01)) ∧ room.inbox.length < 4 := by decide +kernel

theorem wit_BadChecksAreCountedAndRejected :
    (bare.link.framer.buf = [] ∧ bare.link.framer.Sound ∧ bare.link.framer.sinceLast < 11) ∧
    ((inside 10).link.framer.buf = [0x5A] ∧ (inside 10).link.framer.Sound ∧ (inside 10).link.framer.sinceLast < 11 ∧
      [0x5A] ++ (checkedBytes 0x01 7 (List.replicate 12 0) ++ [0, 0])
        = syncByte :: checkedBytes 0x01 7 (List.replicate 12 0) ++ [0, 0]) ∧
    (List.replicate 12 (0 : Byte)).length ≤ 60 ∧
    ([0, 0] : List Byte) ≠ crcBytes (hostCrc (checkedBytes 0x01 7 (List.replicate 12 0))) := by decide +kernel

theorem wit_FramerFaultsAreCounted :
    bare.link.framer = .hunting ∧ (∀ x ∈ ([0x00, 0x59] : List Byte), x ≠ 0x5A) ∧
    (1 : Byte).toNat < 2 ∧ 62 < (63 : Byte).toNat ∧ 62 < (0x5A : Byte).toNat ∧
    (inside 10).link.framer.buf ≠ [] ∧ 10 ≤ (inside 10).link.framer.sinceLast ∧
    2 ≤ (2 : Byte).toNat ∧ (62 : Byte).toNat ≤ 62 ∧ bare.link.framer.buf = [] ∧
    (inside 9).link.framer.sinceLast < 10 ∧
    ((inside 10).link.framer.buf = [0x5A] ∧ (inside 10).link.framer.Sound ∧ (inside 10).link.framer.sinceLast < 11) ∧
    [0x5A] ++ [2, 0x01] ++ [7, 0, 0] = syncByte :: checkedBytes 0x01 7 [] ++ [0, 0] := by decide +kernel

/-- R149, R150: a LEN that fails, and a gap after two more bytes, in a frame whose SYNC came earlier. -/
theorem test_framer_faults_across_commands :
    read (.lengthFault [63]) (inside 10) (fun t => (t.link.framer.buf, t.link.counters.lengthFaults)) = some ([], 1) ∧
    read (.gapTimeout [2, 0x01]) (inside 10) (fun t => (t.link.framer.buf, t.link.counters.gapTimeouts))
      = some ([], 1) := by decide +kernel

theorem wit_RejectsWaitInAStoreOfFour :
    let r : Reject := ⟨.full, 3, false, 0x01⟩
    let l (n : Nat) : Link := { bare.link with waiting := List.replicate n (.reject r) }
    ((l 4).waiting.filter OutItem.isReject).length = 4 ∧ ((l 3).waiting.filter OutItem.isReject).length < 4 ∧
    (waiting [.reject r] .free).link.waiting = .reject r :: [] ∧
    (waiting [.reject r] .free).link.helloOwed = none ∧
    (waiting [.reject r] .free).link.processor ≠ .restartReplyOnLine := by decide +kernel

theorem wit_TheArbiterBeginsTheOldestFrame :
    State.reset.link.helloOwed = some .powerUp ∧ bare.link.helloOwed = none ∧ bare.link.waiting = [] ∧
    restarting.link.helloOwed = none ∧ restarting.link.processor = .restartReplyOnLine ∧
    (waiting [.reply true [1]] .restartReplyWaiting).link.helloOwed = none ∧
    (waiting [.reply true [1]] .restartReplyWaiting).link.processor ≠ .restartReplyOnLine ∧
    (waiting [.reply false [1]] .free).link.waiting = .reply false [1] :: [] ∧
    (waiting [.reject ⟨.check, 0, true, 0⟩] .free).link.waiting = .reject ⟨.check, 0, true, 0⟩ :: [] ∧
    (waiting [.reply false [1]] .free).link.waiting ≠ [] := by decide +kernel

theorem wit_TimingAndModeAreSetOffline :
    (asking bare 0x03 [rateByte .k25, samplePointByte .p60]).Takes ⟨0x03, 7, [0, 60]⟩ ∧
    (asking bare 0x03 [6, 60]).Takes ⟨0x03, 7, [6, 60]⟩ ∧ (∀ rate, (6 : Byte) ≠ rateByte rate) ∧
    (asking bare 0x03 [rateByte .k800, 61]).Takes ⟨0x03, 7, [5, 61]⟩ ∧ (∀ point, (61 : Byte) ≠ samplePointByte point) ∧
    bare.engine.state = .offline ∧ (engineAt .active .quiet bare).engine.state ≠ .offline ∧
    (asking bare 0x04 [modeByte .loopback]).Takes ⟨0x04, 7, [2]⟩ ∧
    (asking bare 0x04 [3]).Takes ⟨0x04, 7, [3]⟩ ∧ (∀ mode, (3 : Byte) ≠ modeByte mode) := by
  refine ⟨by decide, by decide, ?_, by decide, ?_, by decide, by decide, by decide, by decide, ?_⟩ <;>
    (intro x; cases x <;> decide)

/-- GO_ONLINE can be taken in every engine state and mode, with the mark set and clear. -/
theorem wit_GoOnlineJoinsTheBus :
    let on (st : EngineState) (mode : Mode) (owed : Bool) : State :=
      asking { bare with engine := { bare.engine with state := st, mode := mode, recoveryOwed := owed } } 0x05 []
    (∀ st mode owed, (on st mode owed).Takes ⟨0x05, 7, []⟩) ∧
    (on .offline .loopback true).engine.recoveryOwed = true ∧ (on .stopping .normal false).engine.state = .stopping := by
  refine ⟨fun _ _ _ => ⟨rfl, rfl⟩, rfl, rfl⟩

/-- GO_OFFLINE can be taken in every engine state and phase. -/
theorem wit_GoOfflineLeavesTheBus :
    (∀ st phase, (asking (engineAt st phase bare) 0x06 []).Takes ⟨0x06, 7, []⟩) ∧
    (engineAt .active .gap bare).engine.phase = .gap ∧ (engineAt .active .delimiter bare).engine.phase = .delimiter ∧
    (engineAt .active (.burst false true) bare).engine.inBurst = true := by
  refine ⟨fun _ _ => ⟨rfl, rfl⟩, rfl, rfl, rfl⟩

theorem wit_EngineStatusChangesNothing : (asking busy 0x07 []).Takes ⟨0x07, 7, []⟩ := by decide

theorem wit_DiagCountsReportsThenClears :
    (asking busy 0x08 [0]).Takes ⟨0x08, 7, [0]⟩ ∧ (asking busy 0x08 [1]).Takes ⟨0x08, 7, [1]⟩ ∧
    (asking busy 0x08 [2]).Takes ⟨0x08, 7, [2]⟩ ∧ (2 : Byte) ≠ 0 ∧ (2 : Byte) ≠ 1 := by decide

theorem wit_QuietIntervalsBringTheEngineBack :
    let at' (st : EngineState) (progress : Nat) : State :=
      { bare with engine := { bare.engine with state := st, progress := progress, busStuck := true } }
    (at' .syncing 0).engine.state = .syncing ∧ (at' .recovering 62).engine.progress + 1 < 64 ∧
    64 ≤ (at' .recovering 63).engine.progress + 1 ∧ bare.engine.state ≠ .syncing ∧ bare.engine.state ≠ .recovering := by decide

theorem wit_WatchStartAndStopAreTakenWhereTheyStand :
    let watched (ms : Nat) : State := { bare with engine := { bare.engine with state := .recovering, watchMs := ms } }
    1000 ≤ (watched 1000).engine.watchMs ∧ (watched 1000).engine.mode ≠ .loopback ∧ (watched 1000).engine.busStuck = false ∧ (watched 999).engine.watchMs < 1000 ∧
    (engineAt .active .receiving bare).engine.phase ≠ .sending ∧ (engineAt .active .gap bare).engine.mode ≠ .loopback ∧
    bare.engine.state ≠ .active ∧ (engineAt .stopping (.burst true false) bare).engine.inBurst = true ∧
    (engineAt .stopping .sending bare).engine.inBurst = false := by decide

theorem wit_ReceiveFaultsAreTakenInOrder :
    rxFaultWf .coding none = true ∧ rxFaultWf .bitActive (some 0) = true ∧ rxFaultWf .form none = false ∧
    (let e := (engineAt .active .quiet bare).engine; e.mode ≠ .loopback ∧ e.state = .active ∧ e.phase ≠ .sending ∧ e.mode ≠ .listen) ∧
    (let e := (engineAt .stopping .receiving bare).engine; e.state = .stopping ∧ e.phase = .receiving) ∧
    (let e : Engine := { (engineAt .active .receiving bare).engine with mode := .listen }
     e.mode ≠ .loopback ∧ ¬ (e.mode = .listen ∧ FaultKind.check = .bitActive)) ∧
    (bare.engine.state ≠ .active ∧ bare.engine.state ≠ .stopping) := by decide

theorem wit_SetMasksReplacesBothMasks :
    (asking busy 0x09 (tagBytes 0xFFFFFF ++ tagBytes 0)).Takes ⟨0x09, 7, tagBytes 0xFFFFFF ++ tagBytes 0⟩ := by decide +kernel

/-- A configuration at the ends of its fields' ranges. -/
def edge : SlotConfig :=
  { role := .publish, tag := 0xFFFFFF, mtch := .maskB, length := .exact 16, interval := 60000,
    retryLimit := .limit 14, answer := true, notify := true }

theorem wit_ConfigSlotStartsTheSlotAfresh :
    let body : List Byte := [23, 1, 0xFF, 0xFF, 0xFF, 2, 16, 0xEA, 0x60, 14, 1, 1]
    let any : SlotConfig := { edge with role := .subscribe, length := .any, retryLimit := .unlimited }
    body = [slotByte 23, roleByte edge.role] ++ tagBytes edge.tag ++ [matchByte edge.mtch, lengthByte edge.length]
      ++ halfBytes edge.interval ++ [retryByte edge.retryLimit, flagByte edge.answer, flagByte edge.notify] ∧
    edge.interval ≤ 60000 ∧ edge.length.inRange = true ∧ edge.retryLimit.inRange = true ∧ edge.length ≠ .any ∧
    any.interval ≤ 60000 ∧ any.role ≠ .publish ∧
    (∀ life : Life, (asking (bare.setSlot 23 { pub with life := life }) 0x0A body).Takes ⟨0x0A, 7, body⟩ ∧
      ((bare.setSlot 23 { pub with life := life }).slot 23).life = life) := by
  refine ⟨by decide +kernel, by decide, by decide, by decide, by decide, by decide, by decide, fun life => ⟨⟨rfl, rfl⟩, ?_⟩⟩
  cases life <;> decide +kernel

/-- An ENABLE_SLOT for slot 3 with the record given there, beside an enabled publish slot of tag 0x000400. -/
def enabling (x : Slot) : State := asking ((bare.setSlot 0 pub).setSlot 3 x) 0x0B [slotByte 3]

theorem wit_EnableSlotChecksThenEnables :
    let other : Slot := { pub with cfg := { pub.cfg with tag := 0x000401 } }
    (enabling Slot.reset).Takes ⟨0x0B, 7, [slotByte 3]⟩ ∧ ((enabling Slot.reset).slot 3).cfg.role = .none ∧
    (let s := enabling { pub with life := .disabled }
     (s.slot 3).cfg.role = .publish ∧ (s.slot 0).cfg.role = .publish ∧ (s.slot 0).life ≠ .disabled ∧
     (s.slot 0).cfg.tag = (s.slot 3).cfg.tag) ∧
    (∀ m, m ≠ 3 → ((enabling other).slot m).cfg.tag ≠ ((enabling other).slot 3).cfg.tag) ∧
    ((enabling other).slot 3).life = .enabled ∧
    ((enabling { other with life := .draining }).slot 3).life = .draining ∧
    ((enabling { other with life := .disabled }).slot 3).life = .disabled := by decide +kernel

theorem wit_DisableSlotDisablesOrDrains :
    let s (x : Slot) : State := asking (bare.setSlot 3 x) 0x0C [slotByte 3]
    (s pub).Takes ⟨0x0C, 7, [slotByte 3]⟩ ∧ ((s pub).slot 3).life = .enabled ∧ ((s pub).slot 3).tx ≠ .onBus ∧
    ((s { pub with tx := .onBus }).slot 3).tx = .onBus ∧ ((s { pub with life := .disabled }).slot 3).life = .disabled ∧
    ((s { pub with life := .draining }).slot 3).life = .draining := by decide +kernel

theorem wit_WriteSlotReplacesThePayload :
    let data : List Byte := List.replicate 16 1
    let long : Slot := { pub with cfg := { pub.cfg with length := .exact 16 } }
    let s (x : Slot) (send : Bool) : State :=
      asking (bare.setSlot 3 x) 0x0D ([slotByte 3, flagByte send, BitVec.ofNat 8 data.length] ++ data)
    (∀ send, (s long send).Takes ⟨0x0D, 7, [slotByte 3, flagByte send, BitVec.ofNat 8 data.length] ++ data⟩) ∧
    data.length ≤ 16 ∧ ((s sub false).slot 3).cfg.role ≠ .publish ∧
    ((s pub false).slot 3).cfg.length ≠ .exact data.length ∧ ((s long true).slot 3).cfg.length = .exact data.length ∧
    ((s { long with life := .draining } true).slot 3).life = .draining ∧
    ((s { long with life := .disabled } true).slot 3).life = .disabled ∧
    ((s long true).slot 3).life = .enabled := by decide +kernel

theorem wit_ReadSlotReportsThenConsumes :
    (asking (bare.setSlot 5 sub) 0x0E [slotByte 5, flagByte true]).Takes ⟨0x0E, 7, [slotByte 5, flagByte true]⟩ ∧
    ((bare.setSlot 5 sub).slot 5).cfg.role = .subscribe ∧ ((bare.setSlot 5 pub).slot 5).cfg.role ≠ .subscribe := by decide +kernel

theorem wit_SendAndQueryLeaveAReason :
    let s (x : Slot) (send : Bool) : State := asking (bare.setSlot 3 x) (if send then 0x0F else 0x10) [slotByte 3]
    (∀ send, (s pub send).Takes ⟨if send then 0x0F else 0x10, 7, [slotByte 3]⟩) ∧
    (∀ x ∈ [pub, sub], ((s x true).slot 3).life = .enabled ∧ ((s x true).slot 3).tx = .idle) ∧
    ((s pub true).slot 3).cfg.role = .publish ∧ ((s sub false).slot 3).cfg.role = .subscribe ∧
    ((s { sub with tx := .pending } false).slot 3).tx = .pending ∧
    ((s { pub with tx := .onBus, again := true } true).slot 3).again = true ∧
    ((s { pub with tx := .onBus } true).slot 3).again = false ∧
    ((s { pub with life := .disabled } true).slot 3).life = .disabled ∧
    ((s { pub with life := .draining } true).slot 3).life = .draining := by decide +kernel

theorem wit_AbortSlotGivesUpWhatWaits :
    let s (x : Slot) : State := asking (bare.setSlot 3 x) 0x11 [slotByte 3]
    (s pub).Takes ⟨0x11, 7, [slotByte 3]⟩ ∧ ((s pub).slot 3).tx = .idle ∧
    ((s { pub with life := .draining, tx := .onBus }).slot 3).life ≠ .enabled ∧
    ((s { pub with tx := .pending }).slot 3).tx = .pending ∧
    ((s { pub with tx := .onBus }).slot 3).abort = false ∧
    ((s { pub with tx := .onBus, abort := true }).slot 3).abort = true := by decide +kernel

theorem wit_SetCatchReplacesTheFilter :
    let body : List Byte := [flagByte true] ++ tagBytes 0xFF0000 ++ tagBytes 0x030000 ++ [flagByte true]
    (asking (catching 8 65535) 0x12 body).Takes ⟨0x12, 7, body⟩ := by decide +kernel

theorem wit_TakeCatchReportsTheOldestRecord :
    (asking (catching 8 1) 0x13 [flagByte true]).Takes ⟨0x13, 7, [flagByte true]⟩ ∧
    (catching 0 1).catchQ.queue = [] ∧
    (catching 1 1).catchQ.queue = ⟨⟨0x030000, .query⟩, 2000⟩ :: [] := by decide +kernel

theorem wit_UnclaimedFramesAreCaughtDroppedOrCounted :
    let passes (s : State) (tag : Tag) : Prop :=
      s.catchQ.enable = true ∧ tag &&& s.catchQ.mask = s.catchQ.pattern &&& s.catchQ.mask
    (passes (catching 7 0) 0x03FFFF ∧ (catching 7 0).catchQ.queue.length < 8) ∧
    (passes (catching 8 0) 0x030000 ∧ 8 ≤ (catching 8 0).catchQ.queue.length) ∧
    ¬ passes (catching 0 0) 0x040000 ∧ ¬ passes bare 0 := by
  refine ⟨⟨⟨by decide, by decide⟩, by decide⟩, ⟨⟨by decide, by decide⟩, by decide⟩, ?_, ?_⟩ <;>
    (rintro ⟨h, h'⟩; revert h h'; decide)

theorem wit_EventsFoldIntoOnePendingEntry :
    keyedWf busy.notices.pending = true ∧ busy.notices.tagClashEnable = false ∧ busy.notices.stateEnable = true ∧
    keyedGet .state busy.notices.pending = some stateEntry ∧
    (busy.slot 3).cfg.notify = true ∧ keyedGet (.slot 3 .sent) busy.notices.pending = none := by decide +kernel

/-- Two entries wait and the pair of the first has one outstanding: the second is the one to go. -/
theorem wit_DeliverySendsTheHighestRankedEntry :
    let s := backlog [(.state, stateEntry), (.slot 4 .sent, sentEntry)] [(.state, ⟨stateEntry, 255⟩)] 255
    s.notices.Sound ∧ s.link.helloOwed = none ∧ s.link.waiting = [] ∧ s.link.processor ≠ .restartReplyOnLine ∧
    s.notices.gate = true ∧ s.notices.outstanding.length < s.notices.window ∧
    (.slot 4 .sent, sentEntry) ∈ s.notices.pending ∧ keyedGet (.slot 4 .sent) s.notices.outstanding = none ∧
    (∀ x ∈ s.notices.pending, keyedGet x.1 s.notices.outstanding = none → (Pair.slot 4 .sent).rank ≤ x.1.rank) ∧
    bare.notices.Sound ∧ bare.notices.gate = false := by decide +kernel

theorem wit_NoticeControlSetsGateAndEnables :
    let body (b : Byte) : List Byte := [flagByte true, flagByte true, flagByte false, flagByte false, flagByte true, b, flagByte true]
    (asking bare 0x14 (body 0xFF)).Takes ⟨0x14, 7, body 0xFF⟩ ∧
    (asking bare 0x14 (body (slotByte 23))).Takes ⟨0x14, 7, body (slotByte 23)⟩ ∧
    (bare.slot 23).cfg.role = .none ∧ ((bare.setSlot 23 sub).slot 23).cfg.role ≠ .none := by decide +kernel

theorem wit_AckNoticesRemovesByNumber :
    (asking busy 0x15 [8, 10]).Takes ⟨0x15, 7, 8 :: [10]⟩ ∧ 1 ≤ ([10] : List Byte).length ∧ (8 : Byte).toNat ≤ 8 ∧
    (asking busy 0x15 (0xFF :: List.replicate 8 10)).Takes ⟨0x15, 7, 0xFF :: List.replicate 8 10⟩ ∧
    (List.replicate 8 (10 : Byte)).length ≤ 8 := by decide +kernel

theorem wit_ResyncReturnsEveryOutstandingEntry :
    (asking busy 0x16 []).notices.Sound ∧ (asking busy 0x16 []).Takes ⟨0x16, 7, []⟩ ∧
    busy.notices.outstanding ≠ [] := by decide +kernel

theorem wit_ValidFramesAreAccountedAndAccepted :
    (⟨0, .publish (List.replicate 16 0)⟩ : BusFrame).wf = true ∧ (⟨0, .publish (List.replicate 17 0)⟩ : BusFrame).wf = false ∧
    (let e := (engineAt .active .quiet bare).engine; e.mode ≠ .loopback ∧ e.state = .active ∧ e.phase ≠ .sending) ∧
    (let e := (engineAt .stopping .receiving bare).engine; e.mode ≠ .loopback ∧ e.state = .stopping ∧ e.phase = .receiving) ∧
    (bare.engine.state ≠ .active ∧ bare.engine.state ≠ .stopping) := by decide

/-- The slots of 02's example: a clash with slot 2, a claim by slot 5 of each length, and neither. -/
theorem wit_PublishFramesMeetOneFate :
    let s := seven 1000 sub
    let clashes (tag : Tag) (n : SlotNo) : Prop :=
      (s.slot n).cfg.role = .publish ∧ (s.slot n).life ≠ .disabled ∧ (s.slot n).cfg.tag = tag
    let claims (tag : Tag) (n : SlotNo) : Prop :=
      (s.slot n).cfg.role = .subscribe ∧ (s.slot n).life = .enabled ∧ tag &&& s.maskA = (s.slot n).cfg.tag &&& s.maskA
    (clashes 0x01A2F0 2 ∧ ∀ m, m < 2 → ¬ clashes 0x01A2F0 m) ∧
    (∀ n, ¬ clashes 0x01A240 n) ∧ (claims 0x01A240 5 ∧ ∀ m, m < 5 → ¬ claims 0x01A240 m) ∧
    ((s.slot 5).cfg.mtch = .maskA ∧ (s.slot 5).cfg.length = .exact 2 ∧ (s.slot 5).cfg.length ≠ .any) ∧
    (∀ n, ¬ clashes 0x0400AB n) ∧ ∀ n, ¬ claims 0x0400AB n := by
  refine ⟨⟨⟨by decide +kernel, by decide +kernel, by decide +kernel⟩, ?_⟩, ?_,
    ⟨⟨by decide +kernel, by decide +kernel, by decide +kernel⟩, ?_⟩, ⟨by decide +kernel, by decide +kernel, by decide +kernel⟩, ?_, ?_⟩ <;>
    (dsimp only; decide +kernel)

theorem wit_QueryFramesMeetOneFate :
    let s (x : Slot) : State := bare.setSlot 3 x
    let claims (t : State) (tag : Tag) (n : SlotNo) : Prop :=
      (t.slot n).cfg.role = .publish ∧ (t.slot n).life = .enabled ∧ tag = (t.slot n).cfg.tag
    (claims (s pub) 0x000400 3 ∧ ∀ m, m < 3 → ¬ claims (s pub) 0x000400 m) ∧
    ((s pub).slot 3).cfg.mtch = .exact ∧ ((s pub).slot 3).cfg.answer = true ∧ ((s pub).slot 3).tx ≠ .onBus ∧
    ((s { pub with cfg := { pub.cfg with answer := false } }).slot 3).cfg.answer = false ∧
    ∀ n, ¬ claims (s pub) 0x000401 n := by
  refine ⟨⟨⟨by decide +kernel, by decide +kernel, by decide +kernel⟩, ?_⟩, by decide +kernel, by decide +kernel,
    by decide +kernel, by decide +kernel, ?_⟩ <;> (dsimp only; decide +kernel)

/-- Two candidates of one tag, the query in the lower slot: the publish slot is the best. -/
theorem wit_SelectionTakesTheBestCandidate :
    let s := engineAt .active .gap ((bare.setSlot 1
      { sub with cfg := { sub.cfg with tag := 0x000400 }, tx := .pending, reasons := ⟨false, false, true⟩ }).setSlot 3
      { pub with tx := .pending, reasons := ⟨true, false, false⟩ })
    (s.engine.state = .active ∧ s.engine.mode ≠ .listen ∧ s.engine.phase ≠ .receiving ∧ s.engine.phase ≠ .sending
      ∧ s.txBuffer = none) ∧
    (∀ m, ((s.slot m).life = .enabled ∧ (s.slot m).tx = .pending) ↔ (m = 1 ∨ m = 3)) ∧
    (s.slot 1).cfg.tag = (s.slot 3).cfg.tag ∧ (s.slot 3).cfg.role = .publish ∧ (s.slot 1).cfg.role ≠ .publish ∧
    (∀ n, ¬ ((bare.slot n).life = .enabled ∧ (bare.slot n).tx = .pending)) ∧ bare.engine.state ≠ .active := by decide +kernel

theorem wit_FrameEndSettlesLifeAndMarks :
    let marked : Slot := { pub with tx := .onBus, again := true, abort := true }
    ({ marked with life := .draining } : Slot).life = .draining ∧
    (marked.life = .enabled ∧ marked.abort = true) ∧
    (let x : Slot := { marked with abort := false }; x.life = .enabled ∧ x.abort = false ∧ x.again = true) ∧
    (pub.life = .enabled ∧ pub.abort = false ∧ pub.again = false) := by decide

theorem wit_SentFramesSettleSlotThenEngine :
    (∀ x ∈ [pub, { pub with life := .draining }],
      (sending x).txBuffer = some ⟨3, ⟨0x000400, .publish [0x11, 0x22]⟩⟩ ∧ (sending x).engine.state = .active ∧
      (sending x).engine.phase = .sending ∧ (sending x).engine.mode ≠ .loopback) ∧
    (engineAt .stopping .sending (sending pub)).engine.state = .stopping ∧
    (engineAt .stopping (.burst true false) (sending pub)).engine.phase ≠ .sending ∧ bare.txBuffer = none := by decide +kernel

theorem wit_LostFramesWaitAgain :
    (sending pub).txBuffer = some ⟨3, ⟨0x000400, .publish [0x11, 0x22]⟩⟩ ∧ (sending pub).engine.state = .active ∧
    (sending pub).engine.phase = .sending ∧ (sending pub).engine.mode = .normal ∧
    (engineAt .active .receiving (sending pub)).engine.phase ≠ .sending ∧ bare.txBuffer = none := by decide +kernel

theorem wit_FaultedFramesRetryExhaustOrWithdraw :
    let s (n : Nat) : State := { sending pub with engine := { (sending pub).engine with txCount := n } }
    txFaultWf .noAck true = true ∧ txFaultWf .bitPassive false = true ∧ txFaultWf .form false = false ∧ bare.txBuffer = none ∧
    (s 217).txBuffer = some ⟨3, ⟨0x000400, .publish [0x11, 0x22]⟩⟩ ∧ (s 217).engine.state = .active ∧
    (s 217).engine.phase = .sending ∧ (s 217).engine.mode = .normal ∧
    min 255 ((s 217).engine.txCount + 6) < 224 ∧ 224 ≤ min 255 ((s 218).engine.txCount + 6) := by decide +kernel

theorem wit_TimerExpiriesActOnTheSlot :
    let s (x : Slot) : State := bare.setSlot 3 { x with timer := .due }
    ((s pub).slot 3).life = .enabled ∧ ((s pub).slot 3).timer = .due ∧ ((s pub).slot 3).cfg.role = .publish ∧
    ((s pub).slot 3).tx = .idle ∧
    ((s { pub with tx := .pending, reasons := ⟨true, false, false⟩ }).slot 3).reasons.send = true ∧
    ((s { pub with tx := .pending, reasons := ⟨false, true, false⟩ }).slot 3).reasons.send = false ∧
    ((s { pub with tx := .onBus }).slot 3).again = false ∧ ((s { pub with tx := .onBus, again := true }).slot 3).again = true ∧
    ((s sub).slot 3).cfg.role = .subscribe ∧ (bare.slot 3).life ≠ .enabled := by decide +kernel

theorem wit_AMillisecondCountsEveryTimer :
    (∀ n, (busy.slot n).timer ≠ .due) ∧ busy.engine.watchMs < 1000 ∧ busy.engine.burstPassed = false ∧
    (inside 10).link.framer.sinceLast < 11 ∧ busy.link.framer.sinceLast < 11 := by decide +kernel

/-- Everything overdue at once, taken before the clock moves. -/
theorem test_overdue_is_taken_first :
    let s : State := { (engineAt .stopping (.burst true true) (bare.setSlot 5 { sub with timer := .due, stamp := 1300 })) with
      link := (inside 11).link }
    read .partClockAdvance s (fun t => (t.clock, (t.slot 5).freshness, t.engine.state, t.link.counters.gapTimeouts))
      = some (1, .stale, .offline, 1) := by decide +kernel

theorem wit_TheLineCarriesEveryFrameWhole :
    (⟨0xFFFFFF, .publish (List.replicate 16 0xFF)⟩ : BusFrame).wf = true ∧ (⟨0, .query⟩ : BusFrame).wf = true ∧
    (∀ phase ∈ [BusPhase.quiet, .gap, .delimiter, .receiving, .burst true false, .burst false true],
      let e := (engineAt .stopping phase bare).engine; e.state = .stopping ∧ e.mode = .normal ∧ e.phase = phase) ∧
    bare.engine.state ≠ .active ∧ bare.engine.state ≠ .stopping ∧
    receiverCommand .normal (List.replicate 7 false) ≠ none ∧
    (let span := fill (spanBits ⟨0x000400, .query⟩)
     span.head? = some false ∧ (engineAt .active .receiving bare).busTx span = false) ∧
    ((sending pub).engine.phase = .sending ∧ (sending pub).engine.state = .active ∧
      (sending pub).txBuffer = some ⟨3, ⟨0x000400, .publish [0x11, 0x22]⟩⟩ ∧
      transmitterCommand ⟨0x000400, .publish [0x11, 0x22]⟩ [true] ≠ none) ∧
    bare.link.hostOut = none ∧
    read .replyBegin (waiting [.reply true [1, 2]] .replyWaiting) (fun t => t.link.hostOut) = some (some [1, 2]) := by decide +kernel

end Sys2Proof.Tests
end

section
/-! PROOFS. Frames that no slot claims (02_acceptance_and_reception.md, 04_the_catch_queue.md). -/

namespace Sys2Proof.Machine

/-! ### The catch filter and the two ways of the queue (R77 to R79) -/

/-- R77, in the terms of the statements: the filter is on and the tag agrees with the pattern under the mask. -/
theorem CatchQueue.passes_iff (c : CatchQueue) (tag : Tag) :
    c.passes tag = true ↔ c.enable = true ∧ tag &&& c.mask = c.pattern &&& c.mask := by
  simp [CatchQueue.passes, tagMatches]

theorem State.catchFrame_of_room {s : State} (f : BusFrame) (room : s.catchQ.queue.length < 8) :
    s.catchFrame f = s.catchAppend f := if_pos room

theorem State.catchFrame_of_full {s : State} (f : BusFrame) (full : 8 ≤ s.catchQ.queue.length) :
    s.catchFrame f = s.catchDrop f := if_neg (Nat.not_lt.mpr full)

/-! ### The fate of an unclaimed frame (R37, R38) -/

theorem State.unclaimed_of_passes {s : State} {f : BusFrame} (h : s.catchQ.passes f.tag = true) :
    s.unclaimed f = s.catchFrame f := if_pos h

theorem State.unclaimed_of_not_passes {s : State} {f : BusFrame} (h : ¬ s.catchQ.passes f.tag = true) :
    s.unclaimed f = s.countUnclaimed := if_neg h

/-- Settles O44: by the filter's answer and, past the filter, by whether the queue has room. -/
theorem unclaimedFramesAreCaughtDroppedOrCounted : Obligations.UnclaimedFramesAreCaughtDroppedOrCounted := by
  intro s f passes kind
  have filter : s.catchQ.passes f.tag = true ↔ passes := s.catchQ.passes_iff f.tag
  refine ⟨fun hpass room => ?caught, fun hpass full => ?dropped, fun hfail => ?counted⟩
  case caught =>
    rw [State.unclaimed_of_passes (filter.mpr hpass), State.catchFrame_of_room f room]
    rfl
  case dropped =>
    rw [State.unclaimed_of_passes (filter.mpr hpass), State.catchFrame_of_full f full]
    rfl
  case counted =>
    rw [State.unclaimed_of_not_passes (mt filter.mp hfail)]
    rfl

end Sys2Proof.Machine
end

section
/-! PROOFS. ABORT_SLOT by the slot's life and transmit state (03_transmission.md, R50). -/

namespace Sys2Proof.Machine

/-! ### A request whose body is one slot number (R147) -/

theorem parseSlot_slotByte (n : SlotNo) : parseSlot [slotByte n] = .ok n := by
  simp [parseSlot, slotOf_slotByte, field]

/-- A request for a slot, taken: the effect found with the request already out of the inbox is its whole effect. -/
theorem State.request_slot {s t : State} {r : Request} {code : Byte} {n : SlotNo}
    {run : SlotNo → State → State × Reply} {rep : Reply} (taken : s.Takes r) (kind : r.kind = code)
    (body : r.body = [slotByte n]) (effect : run n s.dropRequest = (t.dropRequest, rep)) :
    s.request code parseSlot run = t.answered r rep := by
  rw [State.request_of_takes taken kind]
  exact State.carryOut_ok (body ▸ parseSlot_slotByte n) effect

theorem exec_abortSlot (s : State) : exec .abortSlot s = .next (s.request 0x11 parseSlot doAbortSlot) := rfl

/-! ### The table of R50, a lemma a row -/

theorem doAbortSlot_of_not_waiting {s : State} {n : SlotNo}
    (h : (s.slot n).life ≠ .enabled ∨ (s.slot n).tx = .idle) :
    doAbortSlot n s = (s, .nothingToDo (abortFields n (s.slot n))) := by
  cases life : (s.slot n).life with
  | enabled =>
    have tx : (s.slot n).tx = .idle := h.resolve_left (not_not_intro life)
    simp only [doAbortSlot, life, tx]
  | disabled => simp only [doAbortSlot, life]
  | draining => simp only [doAbortSlot, life]

theorem doAbortSlot_of_pending {s : State} {n : SlotNo}
    (life : (s.slot n).life = .enabled) (tx : (s.slot n).tx = .pending) :
    doAbortSlot n s = (s.setSlot n (s.slot n).giveUp, .ok [slotByte n, 0, 0]) := by
  simp only [doAbortSlot, life, tx]
  rfl

theorem doAbortSlot_of_onBus_unmarked {s : State} {n : SlotNo} (life : (s.slot n).life = .enabled)
    (tx : (s.slot n).tx = .onBus) (unmarked : (s.slot n).abort = false) :
    doAbortSlot n s = (s.setSlot n { s.slot n with abort := true }, .deferred [slotByte n, 2, 1]) := by
  simp [doAbortSlot, abortFields, life, tx, unmarked, txStateByte, flagByte]

theorem doAbortSlot_of_onBus_marked {s : State} {n : SlotNo} (life : (s.slot n).life = .enabled)
    (tx : (s.slot n).tx = .onBus) (marked : (s.slot n).abort = true) :
    doAbortSlot n s = (s, .nothingToDo [slotByte n, 2, 1]) := by
  simp [doAbortSlot, abortFields, life, tx, marked, txStateByte, flagByte]

/-- Settles O41: the request is taken whatever the slot holds, and its effect is the row of R50's table that the
slot's life, transmit state and abort mark pick. -/
theorem abortSlotGivesUpWhatWaits : Obligations.AbortSlotGivesUpWhatWaits := by
  intro s r n taken kind body x
  have answered {t : State} {rep : Reply} (effect : doAbortSlot n s.dropRequest = (t.dropRequest, rep)) :
      exec .abortSlot s = .next (t.answered r rep) := by
    rw [exec_abortSlot, State.request_slot taken kind body effect]
  refine ⟨fun h => ?not_waiting, fun life tx => ?pending, fun life tx unmarked => ?unmarked,
    fun life tx marked => ?marked⟩
  case not_waiting => exact answered (doAbortSlot_of_not_waiting (s := s.dropRequest) h)
  case pending => exact answered (doAbortSlot_of_pending (s := s.dropRequest) life tx)
  case unmarked => exact answered (doAbortSlot_of_onBus_unmarked (s := s.dropRequest) life tx unmarked)
  case marked => exact answered (doAbortSlot_of_onBus_marked (s := s.dropRequest) life tx marked)

end Sys2Proof.Machine
end

section
/-! PROOFS. The host's requests on the catch queue: SET_CATCH and TAKE_CATCH (04_the_catch_queue.md, R80 to R82). -/

namespace Sys2Proof.Machine

/-! ### A request taken whose body is good (R154) -/

/-- The effect found with the request already out of the inbox is the whole effect of the command. -/
theorem State.request_ok {α : Type} {s t : State} {r : Request} {code : Byte} {parse : List Byte → Except Reply α}
    {run : α → State → State × Reply} {a : α} {rep : Reply} (taken : s.Takes r) (kind : r.kind = code)
    (body : parse r.body = .ok a) (effect : run a s.dropRequest = (t.dropRequest, rep)) :
    s.request code parse run = t.answered r rep := by
  rw [State.request_of_takes taken kind]
  exact State.carryOut_ok body effect

/-- The catch queue and the inbox are written in either order. -/
theorem State.dropRequest_setCatch (s : State) (c : CatchQueue) :
    s.dropRequest.setCatch c = (s.setCatch c).dropRequest := rfl

/-! ### SET_CATCH (R82) -/

theorem exec_setCatch (s : State) : exec .setCatch s = .next (s.request 0x12 parseCatch doSetCatch) := rfl

/-- The body of SET_CATCH, written field by field, is read back as what it carries. -/
theorem parseCatch_bytes (a : CatchSetting) :
    parseCatch ([flagByte a.enable] ++ tagBytes a.mask ++ tagBytes a.pattern ++ [flagByte a.flush]) = .ok a := by
  simp only [tagBytes, List.cons_append, List.nil_append, parseCatch, flagOf_flagByte, tagOf_tagBytes, field]
  rfl

theorem doSetCatch_dropRequest (s : State) (a : CatchSetting) :
    doSetCatch a s.dropRequest =
      ((s.setCatch (s.catchQ.set a)).dropRequest, .ok (catchFields (s.catchQ.set a))) := by
  rw [doSetCatch, State.dropRequest_catchQ, State.dropRequest_setCatch]

/-- Settles O42: the body is read back as the setting it carries, and the setting replaces the filter whatever the
queue holds. -/
theorem setCatchReplacesTheFilter : Obligations.SetCatchReplacesTheFilter := by
  intro s r enable flush mask pattern taken kind body kept dropped
  have parsed : parseCatch r.body = .ok ⟨enable, mask, pattern, flush⟩ :=
    body ▸ parseCatch_bytes ⟨enable, mask, pattern, flush⟩
  rw [exec_setCatch, State.request_ok taken kind parsed (doSetCatch_dropRequest s _)]
  rfl

/-! ### TAKE_CATCH (R80, R81) -/

theorem exec_takeCatch (s : State) : exec .takeCatch s = .next (s.request 0x13 parseFlag doTakeCatch) := rfl

theorem parseFlag_flagByte (b : Bool) : parseFlag [flagByte b] = .ok b := by
  simp only [parseFlag, flagOf_flagByte, field]

/-- R81: on an empty queue there is nothing to report. -/
theorem doTakeCatch_of_empty {s : State} (peek : Bool) (empty : s.catchQ.queue = []) :
    doTakeCatch peek s = (s, .refused .empty) := by
  simp only [doTakeCatch, empty]

/-- A catch queue given the records it holds is the queue it was. -/
theorem State.setCatch_queue_self {s : State} {q : List CatchRecord} (queue : s.catchQ.queue = q) :
    s.setCatch { s.catchQ with queue := q } = s := by
  subst queue; rfl

/-- R80: the oldest record is reported with the fill that stays behind; the peek flag leaves it where it is. -/
theorem doTakeCatch_of_record {s : State} {x : CatchRecord} {rest : List CatchRecord} (peek : Bool)
    (queue : s.catchQ.queue = x :: rest) :
    doTakeCatch peek s =
      (s.setCatch { s.catchQ with queue := if peek then x :: rest else rest },
        .ok (catchBytes x (if peek then rest.length + 1 else rest.length) s.catchQ.overflow)) := by
  cases peek with
  | false => simp [doTakeCatch, queue]
  | true => simp [doTakeCatch, queue, State.setCatch_queue_self queue]

/-- Settles O43: the flag is read back, and then the queue decides: no record refuses the request, an oldest record
answers it. The record's bytes are compared by the kind of its frame. -/
theorem takeCatchReportsTheOldestRecord : Obligations.TakeCatchReportsTheOldestRecord := by
  intro s r peek taken kind body
  have parsed : parseFlag r.body = .ok peek := body ▸ parseFlag_flagByte peek
  have answered {t : State} {rep : Reply} (effect : doTakeCatch peek s.dropRequest = (t.dropRequest, rep)) :
      exec .takeCatch s = .next (t.answered r rep) := by
    rw [exec_takeCatch, State.request_ok taken kind parsed effect]
  refine ⟨fun empty => ?empty, fun x rest queue => ?record⟩
  case empty => exact answered (doTakeCatch_of_empty (s := s.dropRequest) peek empty)
  case record =>
    intro fill
    have effect := doTakeCatch_of_record (s := s.dropRequest) peek queue
    rw [State.dropRequest_setCatch] at effect
    rw [answered effect]
    obtain ⟨⟨tag, frameBody⟩, stamp⟩ := x
    cases frameBody with
    | publish data => rfl
    | query => rfl

end Sys2Proof.Machine
end

section
/-! PROOFS. The host's settings of the bus engine: SET_TIMING and SET_MODE (06_the_bus_engine.md, R121;
09_diagnostic_modes_and_counters.md, R164). -/

namespace Sys2Proof.Machine

/-! ### A request taken whose body is refused (R154) -/

/-- A body that does not parse is answered with the refusal it parses to, and nothing is carried out. -/
theorem State.request_error {α : Type} {s : State} {r : Request} {code : Byte} {parse : List Byte → Except Reply α}
    {run : α → State → State × Reply} {rep : Reply} (taken : s.Takes r) (kind : r.kind = code)
    (body : parse r.body = .error rep) : s.request code parse run = s.answered r rep := by
  rw [State.request_of_takes taken kind]
  exact State.carryOut_error body

/-! ### A setting of the engine that is made with the engine OFFLINE (R121, R164) -/

/-- The engine and the inbox are written in either order. -/
theorem State.dropRequest_setEngine (s : State) (e : Engine) :
    s.dropRequest.setEngine e = (s.setEngine e).dropRequest := rfl

/-- The engine's state alone decides whether a request of a good body sets what it carries or meets WRONG_STATE. -/
theorem exec_of_offline_setting {α : Type} {s : State} {r : Request} {c : Instr} {code : Byte}
    {parse : List Byte → Except Reply α} {run : α → State → State × Reply} {a : α} {fields : List Byte}
    (set : Engine → Engine) (command : exec c s = .next (s.request code parse run))
    (taken : s.Takes r) (kind : r.kind = code) (body : parse r.body = .ok a)
    (setting : ∀ t : State, run a t =
      if t.engine.state = .offline then (t.setEngine (set t.engine), .ok fields) else (t, .refused .wrongState)) :
    (s.engine.state = .offline → exec c s = .next ((s.setEngine (set s.engine)).answered r (.ok fields))) ∧
    (s.engine.state ≠ .offline → exec c s = .next (s.answered r (.refused .wrongState))) := by
  have effect := setting s.dropRequest
  rw [State.dropRequest_engine, State.dropRequest_setEngine] at effect
  refine ⟨fun offline => ?offline, fun other => ?other⟩
  case offline =>
    rw [if_pos offline] at effect
    rw [command, State.request_ok taken kind body effect]
  case other =>
    rw [if_neg other] at effect
    rw [command, State.request_ok taken kind body effect]

/-! ### A byte outside a field's coding (R146): each code is tried and missed -/

theorem rateOf_eq_none {b : Byte} (outside : ∀ rate, b ≠ rateByte rate) : rateOf b = none :=
  calc rateOf b
    _ = if b = 3 then some .k200 else if b = 4 then some .k400 else if b = 5 then some .k800 else none :=
      (if_neg (outside .k25)).trans <| (if_neg (outside .k50)).trans <| if_neg (outside .k100)
    _ = none := (if_neg (outside .k200)).trans <| (if_neg (outside .k400)).trans <| if_neg (outside .k800)

theorem samplePointOf_eq_none {b : Byte} (outside : ∀ point, b ≠ samplePointByte point) : samplePointOf b = none :=
  calc samplePointOf b
    _ = if b = 75 then some .p75 else if b = 80 then some .p80 else if b = 85 then some .p85 else none :=
      (if_neg (outside .p60)).trans <| (if_neg (outside .p65)).trans <| if_neg (outside .p70)
    _ = none := (if_neg (outside .p75)).trans <| (if_neg (outside .p80)).trans <| if_neg (outside .p85)

theorem modeOf_eq_none {b : Byte} (outside : ∀ mode, b ≠ modeByte mode) : modeOf b = none :=
  (if_neg (outside .normal)).trans <| (if_neg (outside .listen)).trans <| if_neg (outside .loopback)

/-! ### SET_TIMING (R121) -/

theorem exec_setTiming (s : State) : exec .setTiming s = .next (s.request 0x03 parseTiming doSetTiming) := rfl

theorem parseTiming_bytes (rate : Rate) (point : SamplePoint) :
    parseTiming [rateByte rate, samplePointByte point] = .ok (rate, point) := by
  simp only [parseTiming, rateOf_rateByte, samplePointOf_samplePointByte, field]
  rfl

theorem parseTiming_of_bad_rate {b : Byte} (p : Byte) (outside : ∀ rate, b ≠ rateByte rate) :
    parseTiming [b, p] = .error (.badValue 0) := by
  simp only [parseTiming, rateOf_eq_none outside, field]
  rfl

theorem parseTiming_of_bad_point (rate : Rate) {p : Byte} (outside : ∀ point, p ≠ samplePointByte point) :
    parseTiming [rateByte rate, p] = .error (.badValue 1) := by
  simp only [parseTiming, rateOf_rateByte, samplePointOf_eq_none outside, field]
  rfl

/-! ### SET_MODE (R164) -/

theorem exec_setMode (s : State) : exec .setMode s = .next (s.request 0x04 parseMode doSetMode) := rfl

theorem parseMode_modeByte (m : Mode) : parseMode [modeByte m] = .ok m := by
  simp only [parseMode, modeOf_modeByte, field]

theorem parseMode_of_bad_mode {b : Byte} (outside : ∀ mode, b ≠ modeByte mode) :
    parseMode [b] = .error (.badValue 0) := by
  simp only [parseMode, modeOf_eq_none outside, field]

/-- Settles O26: a good body is read back as the setting it carries, and the engine's state decides whether it is
made; a byte outside its field's coding refuses the body before the engine is looked at. -/
theorem timingAndModeAreSetOffline : Obligations.TimingAndModeAreSetOffline := by
  refine ⟨fun s r taken kind => ?timing, fun s r taken kind => ?mode⟩
  case timing =>
    have refused {rep : Reply} (bad : parseTiming r.body = .error rep) :
        exec .setTiming s = .next (s.answered r rep) := by
      rw [exec_setTiming, State.request_error taken kind bad]
    refine ⟨fun rate point body => ?good, fun b p body outside => ?badRate, fun rate p body outside => ?badPoint⟩
    case good =>
      exact exec_of_offline_setting (fun e => { e with rate := rate, samplePoint := point })
        (exec_setTiming s) taken kind (body ▸ parseTiming_bytes rate point) fun _ => rfl
    case badRate => exact refused (body ▸ parseTiming_of_bad_rate p outside)
    case badPoint => exact refused (body ▸ parseTiming_of_bad_point rate outside)
  case mode =>
    refine ⟨fun mode body => ?good, fun b body outside => ?badMode⟩
    case good =>
      exact exec_of_offline_setting (fun e => { e with mode := mode })
        (exec_setMode s) taken kind (body ▸ parseMode_modeByte mode) fun _ => rfl
    case badMode =>
      rw [exec_setMode, State.request_error taken kind (body ▸ parseMode_of_bad_mode outside)]

end Sys2Proof.Machine
end

section
/-! PROOFS. RESYNC_NOTICES: every outstanding entry returns to PENDING (07_notices.md, R140). -/

namespace Sys2Proof.Machine

/-! ### Keyed lists in their canonical form (R129, R132) -/

/-- The canonical form, as an order of the whole list: every pair behind the front one has a higher rank number. -/
theorem keyedWf_cons_iff {α : Type} (p : Pair) (a : α) (l : List (Pair × α)) :
    keyedWf ((p, a) :: l) = true ↔ (∀ x ∈ l, p.rank < x.1.rank) ∧ keyedWf l = true := by
  cases l with
  | nil => exact ⟨fun _ => ⟨List.forall_mem_nil _, rfl⟩, fun _ => rfl⟩
  | cons y l =>
    obtain ⟨q, b⟩ := y
    have unfolded : keyedWf ((p, a) :: (q, b) :: l) = true ↔ p.rank < q.rank ∧ keyedWf ((q, b) :: l) = true := by
      simp only [keyedWf, Bool.and_eq_true, decide_eq_true_eq]
    rw [unfolded, List.forall_mem_cons]
    refine ⟨fun ⟨next, wf⟩ => ⟨⟨next, fun x hx => ?_⟩, wf⟩, fun ⟨⟨next, _⟩, wf⟩ => ⟨next, wf⟩⟩
    have ⟨later, _⟩ := (keyedWf_cons_iff q b l).mp wf
    exact Nat.lt_trans next (later x hx)

theorem keyedGet_eq_none_of_forall_ne {α : Type} {p : Pair} {l : List (Pair × α)} (absent : ∀ x ∈ l, x.1 ≠ p) :
    keyedGet p l = none := by
  induction l with
  | nil => rfl
  | cons x l ih =>
    obtain ⟨here, later⟩ := List.forall_mem_cons.mp absent
    exact (if_neg here).trans (ih later)

/-- Under the canonical form, a pair at the front has no second entry behind, and the rest is canonical too. -/
theorem keyedWf_cons {α : Type} {p : Pair} {a : α} {l : List (Pair × α)} (wf : keyedWf ((p, a) :: l) = true) :
    keyedGet p l = none ∧ keyedWf l = true := by
  obtain ⟨above, rest⟩ := (keyedWf_cons_iff p a l).mp wf
  refine ⟨keyedGet_eq_none_of_forall_ne fun x hx same => ?_, rest⟩
  exact Nat.ne_of_lt (above x hx) (congrArg Pair.rank same.symm)

/-! ### The entries given back (R140) -/

theorem keyedWf_returnAll {pending : List (Pair × Entry)} (out : List (Pair × Numbered))
    (wf : keyedWf pending = true) : keyedWf (returnAll pending out) = true := by
  induction out generalizing pending with
  | nil => exact wf
  | cons x out ih => exact ih (keyedWf_put _ _ _ wf)

/-- What a pair has pending afterwards: its outstanding entry given back, and without one what it had. -/
theorem keyedGet_returnAll {pending : List (Pair × Entry)} {out : List (Pair × Numbered)} (p : Pair)
    (wfPending : keyedWf pending = true) (wfOut : keyedWf out = true) :
    keyedGet p (returnAll pending out) =
      (keyedGet p out).elim (keyedGet p pending) fun o => some (o.entry.giveBack (keyedGet p pending)) := by
  induction out generalizing pending with
  | nil => rfl
  | cons x out ih =>
    obtain ⟨q, o⟩ := x
    obtain ⟨alone, wfRest⟩ := keyedWf_cons wfOut
    have rest := ih (keyedWf_put q o.entry.giveBack pending wfPending) wfRest
    by_cases same : q = p
    · subst same
      calc keyedGet q (returnAll pending ((q, o) :: out))
        _ = keyedGet q (keyedPut q o.entry.giveBack pending) := by rw [alone] at rest; exact rest
        _ = some (o.entry.giveBack (keyedGet q pending)) := keyedGet_put_self q _ pending wfPending
        _ = _ := by simp only [keyedGet, if_true, Option.elim_some]
    · rw [keyedGet_put_other (Ne.symm same)] at rest
      simp only [keyedGet, if_neg same]
      exact rest

/-! ### RESYNC_NOTICES (R140) -/

theorem exec_resyncNotices (s : State) :
    exec .resyncNotices s = .next (s.request 0x16 parseNone doResyncNotices) := rfl

theorem doResyncNotices_dropRequest (s : State) :
    doResyncNotices () s.dropRequest =
      ((s.setNotices s.notices.resync).dropRequest,
        .ok [byteOf s.notices.outstanding.length, byteOf s.notices.window,
             byteOf s.notices.resync.pending.length]) := rfl

/-- Settles O49: the pending set left is the one that takes every outstanding entry back in turn. Each return keeps
its canonical form, and each pair, outstanding at most once, is met by at most one of them. -/
theorem resyncReturnsEveryOutstandingEntry : Obligations.ResyncReturnsEveryOutstandingEntry := by
  intro s r sound taken kind body
  obtain ⟨wfPending, wfOut, -⟩ := sound
  have parsed : parseNone r.body = .ok () := by rw [body]; rfl
  refine ⟨returnAll s.notices.pending s.notices.outstanding, ?state, keyedWf_returnAll _ wfPending, fun p => ?entry⟩
  case state =>
    rw [exec_resyncNotices, State.request_ok taken kind parsed (doResyncNotices_dropRequest s)]
    rfl
  case entry =>
    rw [keyedGet_returnAll p wfPending wfOut]
    cases keyedGet p s.notices.outstanding with
    | none => rfl
    | some o =>
      cases keyedGet p s.notices.pending with
      | none => rfl
      | some q => rfl

end Sys2Proof.Machine
end

section
/-! PROOFS. The framer, and a frame it completes whose check is bad (08_the_host_link.md, R149, R151). -/

namespace Sys2Proof.Machine

/-! ### The framer's law, and one byte (R145, R149) -/

/-- The running check takes one byte more. -/
theorem hostCrc_append_byte (bytes : List Byte) (b : Byte) : hostCrc (bytes ++ [b]) = crcByte (hostCrc bytes) b := by
  simp [hostCrc]

theorem Framer.sound_hunting : Framer.hunting.Sound := ⟨by decide, .inl rfl⟩

theorem Framer.sound_synced : Framer.synced.Sound := ⟨by decide, .inr (.inl rfl)⟩

/-- The framer's law past LEN: the bytes read after it fall short of KIND, SEQ, BODY and CHECK, and the running check
covers those of them that are not CHECK. -/
theorem Framer.sound_iff_of_len_read {f : Framer} {x len : Byte} {got : List Byte} (buf : f.buf = x :: len :: got) :
    f.Sound ↔ f.sinceLast ≤ 11 ∧ x = syncByte ∧ 2 ≤ len.toNat ∧ len.toNat ≤ 62 ∧ got.length < len.toNat + 2 ∧
      f.crc = hostCrc (len :: got.take len.toNat) := by
  obtain ⟨fbuf, crc, sinceLast⟩ := f
  subst buf
  simp [Framer.Sound]

theorem Framer.byte_of_hunting {f : Framer} (buf : f.buf = []) (b : Byte) :
    f.byte b = if b = syncByte then (.synced, .none) else (.hunting, .none) := by
  simp only [Framer.byte, buf]

theorem Framer.byte_of_synced {f : Framer} {x : Byte} (buf : f.buf = [x]) (b : Byte) :
    f.byte b = Framer.lenByte b := by
  simp only [Framer.byte, buf]

theorem Framer.lenByte_of_range {len : Byte} (range : 2 ≤ len.toNat ∧ len.toNat ≤ 62) :
    Framer.lenByte len = ({ buf := [syncByte, len], crc := crcByte 0xFFFF len, sinceLast := 0 }, .none) := if_pos range

/-- A byte past LEN: KIND, SEQ and BODY run into the check, the first CHECK byte does not, the second ends the frame. -/
theorem Framer.byte_of_len_read {f : Framer} {x len : Byte} {got : List Byte} (buf : f.buf = x :: len :: got)
    (b : Byte) :
    f.byte b =
      if got.length < len.toNat then
        ({ buf := x :: len :: (got ++ [b]), crc := crcByte f.crc b, sinceLast := 0 }, .none)
      else if got.length < len.toNat + 1 then
        ({ buf := x :: len :: (got ++ [b]), crc := f.crc, sinceLast := 0 }, .none)
      else
        (.hunting, .frame (crcBytes f.crc == (got ++ [b]).drop len.toNat) (requestOf (x :: len :: (got ++ [b])))) := by
  simp [Framer.byte, Framer.bodyByte, buf]

theorem Framer.lenByte_sound (b : Byte) : (Framer.lenByte b).1.Sound := by
  unfold Framer.lenByte
  split
  · next range =>
    obtain ⟨least, most⟩ := range
    exact (Framer.sound_iff_of_len_read rfl).mpr ⟨by simp, rfl, least, most, by simp, by simp [hostCrc]⟩
  · split
    · exact Framer.sound_synced
    · exact Framer.sound_hunting

/-- Every byte keeps the framer's law. -/
theorem Framer.byte_sound {f : Framer} (sound : f.Sound) (b : Byte) : (f.byte b).1.Sound := by
  match buf : f.buf with
  | [] =>
    rw [Framer.byte_of_hunting buf]
    split
    · exact Framer.sound_synced
    · exact Framer.sound_hunting
  | [x] =>
    rw [Framer.byte_of_synced buf]
    exact Framer.lenByte_sound b
  | x :: len :: got =>
    obtain ⟨-, sync, least, most, -, crc⟩ := (Framer.sound_iff_of_len_read buf).mp sound
    have joined : (got ++ [b]).length = got.length + 1 := by rw [List.length_append, List.length_singleton]
    rw [Framer.byte_of_len_read buf]
    split
    · next short =>
      have covered : crcByte f.crc b = hostCrc (len :: (got ++ [b]).take len.toNat) := by
        rw [List.take_of_length_le (by omega), ← List.cons_append, hostCrc_append_byte, crc,
          List.take_of_length_le (by omega)]
      exact (Framer.sound_iff_of_len_read rfl).mpr ⟨Nat.zero_le _, sync, least, most, by omega, covered⟩
    · split
      · next full check1 =>
        have covered : f.crc = hostCrc (len :: (got ++ [b]).take len.toNat) := by
          rw [List.take_append_of_le_length (by omega), crc]
        exact (Framer.sound_iff_of_len_read rfl).mpr ⟨Nat.zero_le _, sync, least, most, by omega, covered⟩
      · exact Framer.sound_hunting

/-! ### The bytes of one frame (R145, R149) -/

/-- The LEN of a body that fits says how many bytes KIND, SEQ and BODY are. -/
theorem byteOf_len_toNat {body : List Byte} (fits : body.length ≤ 60) :
    (byteOf (body.length + 2)).toNat = body.length + 2 :=
  byteOf_toNat (by omega)

/-- A byte with others of its frame to come joins the partial frame, and nothing is found yet. -/
theorem Framer.byte_of_frame_unfinished {f : Framer} {kind seq c1 c0 b : Byte} {body got rest : List Byte}
    (fits : body.length ≤ 60) (buf : f.buf = got) (more : rest ≠ [])
    (frame : got ++ b :: rest = syncByte :: checkedBytes kind seq body ++ [c1, c0]) :
    (f.byte b).1.buf = got ++ [b] ∧ (f.byte b).2 = .none := by
  have len := byteOf_len_toNat fits
  simp only [checkedBytes, List.cons_append] at frame
  match got with
  | [] =>
    obtain ⟨rfl, -⟩ := List.cons.inj frame
    simp [Framer.byte_of_hunting buf, Framer.synced]
  | [x] =>
    obtain ⟨rfl, tail⟩ := List.cons.inj frame
    obtain ⟨rfl, -⟩ := List.cons.inj tail
    simp [Framer.byte_of_synced buf, Framer.lenByte_of_range (len := byteOf (body.length + 2)) (by omega)]
  | x :: y :: got =>
    obtain ⟨rfl, tail⟩ := List.cons.inj frame
    obtain ⟨rfl, tail⟩ := List.cons.inj tail
    have unfinished : got.length < body.length + 2 + 1 := by
      have total : got.length + (rest.length + 1) = body.length + 2 + 1 + 1 := by
        simpa using congrArg List.length tail
      have left := List.length_pos_iff.mpr more
      omega
    rw [Framer.byte_of_len_read buf, len, if_pos unfinished]
    split <;> exact ⟨rfl, rfl⟩

theorem requestOf_frame {kind seq c1 c0 : Byte} {body : List Byte} (fits : body.length ≤ 60) :
    requestOf (syncByte :: checkedBytes kind seq body ++ [c1, c0]) = ⟨kind, seq, body⟩ := by
  simp [requestOf, checkedBytes, byteOf_len_toNat fits]

/-- The last byte of a frame brings the framer back to hunting, with the frame and whether its check agrees. -/
theorem Framer.byte_of_frame_last {f : Framer} {kind seq c1 c0 b : Byte} {body got : List Byte}
    (fits : body.length ≤ 60) (buf : f.buf = got) (sound : f.Sound)
    (frame : got ++ [b] = syncByte :: checkedBytes kind seq body ++ [c1, c0]) :
    f.byte b =
      (.hunting, .frame (crcBytes (hostCrc (checkedBytes kind seq body)) == [c1, c0]) ⟨kind, seq, body⟩) := by
  have len := byteOf_len_toNat fits
  have asked := requestOf_frame (kind := kind) (seq := seq) (c1 := c1) (c0 := c0) fits
  obtain ⟨init, last⟩ : got = syncByte :: checkedBytes kind seq body ++ [c1] ∧ b = c0 := by
    simpa using List.append_inj' (frame.trans (List.append_assoc _ [c1] [c0]).symm) rfl
  subst last
  have read : f.buf = syncByte :: byteOf (body.length + 2) :: (kind :: seq :: body ++ [c1]) := buf.trans init
  obtain ⟨-, -, -, -, -, crc⟩ := (Framer.sound_iff_of_len_read read).mp sound
  have covered : f.crc = hostCrc (checkedBytes kind seq body) := by simpa [len, checkedBytes] using crc
  rw [Framer.byte_of_len_read read, len, if_neg (by simp), if_neg (by simp), covered, ← asked]
  simp [checkedBytes]

/-! ### The link reads a frame to its end (R149, R150) -/

/-- A byte that brings the framer to nothing changes the framer alone. -/
theorem Link.byte_of_none {l : Link} {b : Byte} (found : (l.framer.byte b).2 = .none) :
    l.byte b = { l with framer := (l.framer.byte b).1 } := by
  simp only [Link.byte, found, Link.react]

/-- Bytes come to the framer as they are while the clock shows no gap before them. -/
theorem Link.bytes_of_no_gap {l : Link} (recent : l.framer.sinceLast < 11) (bs : List Byte) :
    l.bytes bs = bs.foldl Link.byte l := by
  have kept : l.takeOverdueGap = l := by
    have : ¬ Config.gapSurely ≤ l.framer.sinceLast := Nat.not_le.mpr recent
    simp [Link.takeOverdueGap, this]
  cases bs with
  | nil => rfl
  | cons b bs => rw [Link.bytes, kept]; nofun

/-- The bytes that a frame still lacks, one after the other: the link reacts once, to the whole frame. -/
theorem Link.foldl_byte_of_frame {kind seq c1 c0 : Byte} {body : List Byte} (fits : body.length ≤ 60)
    {rest : List Byte} (more : rest ≠ []) {l : Link} {got : List Byte} (buf : l.framer.buf = got)
    (sound : l.framer.Sound) (frame : got ++ rest = syncByte :: checkedBytes kind seq body ++ [c1, c0]) :
    rest.foldl Link.byte l =
      { l with framer := .hunting }.react
        (.frame (crcBytes (hostCrc (checkedBytes kind seq body)) == [c1, c0]) ⟨kind, seq, body⟩) := by
  induction rest generalizing l got with
  | nil => exact absurd rfl more
  | cons b rest ih =>
    rw [List.foldl_cons]
    by_cases left : rest = []
    case pos =>
      subst left
      rw [List.foldl_nil, Link.byte, Framer.byte_of_frame_last fits buf sound frame]
    case neg =>
      obtain ⟨joined, found⟩ := Framer.byte_of_frame_unfinished fits buf left frame
      rw [Link.byte_of_none found, ih left joined (Framer.byte_sound sound b) (by simpa using frame)]

theorem exec_hostFrameReceived (bs : List Byte) (s : State) :
    exec (.hostFrameReceived bs) s = .next { s with link := s.link.bytes bs } := rfl

/-- Settles O22: the framer finds the frame at its last byte, with the two checks apart. -/
theorem badChecksAreCountedAndRejected : Obligations.BadChecksAreCountedAndRejected := by
  intro s kind seq body c1 c0 got rest fits frame more buf sound recent differ
  have bad : (crcBytes (hostCrc (checkedBytes kind seq body)) == [c1, c0]) = false := by
    simpa only [beq_eq_false_iff_ne] using differ.symm
  rw [exec_hostFrameReceived, Link.bytes_of_no_gap recent, Link.foldl_byte_of_frame fits more buf sound frame, bad]
  rfl

end Sys2Proof.Machine
end

section
/-! PROOFS. The pending-rejects store (08_the_host_link.md, R153). -/

namespace Sys2Proof.Machine

theorem Link.produceReject_of_full {l : Link} (r : Reject)
    (full : 4 ≤ (l.waiting.filter OutItem.isReject).length) :
    l.produceReject r = { l with counters := l.counters.rejectDropped } := if_pos full

theorem Link.produceReject_of_room {l : Link} (r : Reject)
    (room : (l.waiting.filter OutItem.isReject).length < 4) :
    l.produceReject r = { l with waiting := l.waiting ++ [.reject r] } := if_neg (Nat.not_le.mpr room)

/-- A REJECT put at the end of the output order is one more in the store. -/
theorem rejects_append_reject (waiting : List OutItem) (r : Reject) :
    ((waiting ++ [OutItem.reject r]).filter OutItem.isReject).length
      = (waiting.filter OutItem.isReject).length + 1 := by
  rw [List.filter_append, List.length_append]
  rfl

/-- The store holds at most 4, whatever is produced. -/
theorem Link.produceReject_store_le {l : Link} (r : Reject)
    (store : (l.waiting.filter OutItem.isReject).length ≤ 4) :
    ((l.produceReject r).waiting.filter OutItem.isReject).length ≤ 4 := by
  rcases Nat.lt_or_ge (l.waiting.filter OutItem.isReject).length 4 with room | full
  · rw [Link.produceReject_of_room r room]
    exact Nat.le_trans (Nat.le_of_eq (rejects_append_reject l.waiting r)) room
  · rw [Link.produceReject_of_full r full]
    exact store

theorem Link.mayBegin_iff (l : Link) :
    l.mayBegin = true ↔ l.helloOwed = none ∧ l.processor ≠ .restartReplyOnLine := by
  simp [Link.mayBegin]

theorem Link.beginReject_of_reject {l : Link} {r : Reject} {rest : List OutItem} (may : l.mayBegin = true)
    (oldest : l.waiting = .reject r :: rest) :
    l.beginReject = { l with waiting := rest, hostOut := some (rejectFrame r) } := by
  simp only [Link.beginReject, may, oldest, if_true]

theorem exec_rejectBegin (s : State) : exec .rejectBegin s = .next { s with link := s.link.beginReject } := rfl

/-- Settles O24: by the room in the store, and by the oldest waiting frame once the line is free for it. -/
theorem rejectsWaitInAStoreOfFour : Obligations.RejectsWaitInAStoreOfFour := by
  refine ⟨fun l r => ⟨Link.produceReject_store_le r, fun full => ?dropped, Link.produceReject_of_room r⟩,
    fun s r rest oldest noHello noRestart => ?begun⟩
  case dropped => exact Link.produceReject_of_full r (Nat.le_of_eq full.symm)
  case begun =>
    have may : s.link.mayBegin = true := s.link.mayBegin_iff.mpr ⟨noHello, noRestart⟩
    rw [exec_rejectBegin, Link.beginReject_of_reject may oldest]

end Sys2Proof.Machine
end

section
/-! PROOFS. IDENTIFY and the revision that HELLO carries (08_the_host_link.md, R158). -/

namespace Sys2Proof.Machine

theorem exec_identify (s : State) : exec .identify s = .next (s.request 0x01 parseNone doIdentify) := rfl

/-- R158: the codes and sizes byte by byte. -/
theorem identity_bytes : identity = [0x01, 0x57, 0x00, 0x24, 1, 24, 8, 16, 4, 8] := by decide

/-- IDENTIFY leaves the state as it is, the request already out of the inbox. -/
theorem doIdentify_dropRequest (s : State) : doIdentify () s.dropRequest = (s.dropRequest, .ok identity) := rfl

theorem helloBody_revision (cause : HelloCause) (clock : Stamp) :
    (helloBody cause clock)[1]? = some (byteOf Config.revision) := rfl

/-- Settles O19: IDENTIFY has no effect but its reply, whose bytes and HELLO's revision are the part's numbers. -/
theorem identifyReportsThePart : Obligations.IdentifyReportsThePart := by
  refine ⟨fun s r taken kind body => ?reply, helloBody_revision⟩
  have parsed : parseNone r.body = .ok () := by rw [body]; rfl
  rw [exec_identify, State.request_ok taken kind parsed (doIdentify_dropRequest s), identity_bytes]

end Sys2Proof.Machine
end

section
/-! PROOFS. The diagnostic counters: DIAG_COUNTS, and what lowers a counter
(09_diagnostic_modes_and_counters.md, R169 to R171). -/

namespace Sys2Proof.Machine

/-! ### DIAG_COUNTS (R171) -/

theorem exec_diagCounts (s : State) : exec .diagCounts s = .next (s.request 0x08 parseFlag doDiagCounts) := rfl

theorem parseFlag_of_bad_flag {b : Byte} (zero : b ≠ 0) (one : b ≠ 1) : parseFlag [b] = .error (.badValue 0) := by
  simp only [parseFlag, flagOf, if_neg zero, if_neg one, field]

/-- A body of one flag is good exactly when it is that flag's code. -/
theorem parseFlag_eq_ok_iff {body : List Byte} {b : Bool} : parseFlag body = .ok b ↔ body = [flagByte b] := by
  refine ⟨fun parsed => ?_, fun written => written ▸ parseFlag_flagByte b⟩
  match body with
  | [] => cases parsed
  | _ :: _ :: _ => cases parsed
  | [x] =>
    by_cases zero : x = 0
    · subst zero; cases parsed; rfl
    · by_cases one : x = 1
      · subst one; cases parsed; rfl
      · cases (parseFlag_of_bad_flag zero one).symm.trans parsed

/-- The clear and the inbox are written in either order, and the reply shows the counters from before the clear. -/
theorem doDiagCounts_dropRequest (clear : Bool) (s : State) :
    doDiagCounts clear s.dropRequest =
      ((if clear then s.clearCounters else s).dropRequest, .ok (counterBytes s.diag s.link.counters)) := by
  cases clear <;> rfl

/-- A DIAG_COUNTS whose flag is good, as a whole. -/
theorem exec_diagCounts_of_flag {s : State} {r : Request} {clear : Bool} (taken : s.Takes r) (kind : r.kind = 0x08)
    (body : r.body = [flagByte clear]) :
    exec .diagCounts s = .next
      ((if clear then s.clearCounters else s).answered r (.ok (counterBytes s.diag s.link.counters))) := by
  rw [exec_diagCounts, State.request_ok taken kind (parseFlag_eq_ok_iff.mpr body) (doDiagCounts_dropRequest clear s)]

/-- Settles O30: by the flag's byte, which says whether the counters are cleared once the reply has them. -/
theorem diagCountsReportsThenClears : Obligations.DiagCountsReportsThenClears := by
  intro s r taken kind d k shown
  refine ⟨fun body => ?kept, fun body => ?cleared, fun b body zero one => ?refused⟩
  case kept => exact exec_diagCounts_of_flag (clear := false) taken kind body
  case cleared => exact exec_diagCounts_of_flag (clear := true) taken kind body
  case refused =>
    rw [exec_diagCounts, State.request_error taken kind (body ▸ parseFlag_of_bad_flag zero one)]

/-! ### Counters that rise (R169) -/

theorem DiagCounters.AtMost.refl (d : DiagCounters) : d.AtMost d := by
  simp only [DiagCounters.AtMost]; omega

theorem DiagCounters.AtMost.trans {c d e : DiagCounters} (below : c.AtMost d) (above : d.AtMost e) : c.AtMost e := by
  simp only [DiagCounters.AtMost] at *; omega

/-- From counters within their 16 bits, what counting makes of them: none is lowered and all stay within. -/
def DiagCounters.Rises (c d : DiagCounters) : Prop := c.Sound → c.AtMost d ∧ d.Sound

theorem DiagCounters.Rises.of_eq {c d : DiagCounters} (same : d = c) : c.Rises d := by
  subst same
  exact fun sound => ⟨.refl d, sound⟩

theorem DiagCounters.Rises.trans {c d e : DiagCounters} (first : c.Rises d) (second : d.Rises e) : c.Rises e :=
  fun sound =>
    have ⟨below, soundMid⟩ := first sound
    have ⟨above, soundEnd⟩ := second soundMid
    ⟨below.trans above, soundEnd⟩

/-- A 16-bit counter goes up or, at its largest value, stays. -/
theorem satAdd_half_bounds {n : Nat} (range : n ≤ 65535) :
    n ≤ satAdd Config.halfMax n 1 ∧ satAdd Config.halfMax n 1 ≤ 65535 := by
  simp only [satAdd, Config.halfMax]; omega

/-! ### What counts (R169): each operation turns one counter up -/

theorem DiagCounters.countFault_rises (d : DiagCounters) (kind : FaultKind) : d.Rises (d.countFault kind) := by
  intro sound
  cases kind <;> grind [DiagCounters.countFault, satAdd_half_bounds]

theorem State.countSent_rises (s : State) : s.diag.Rises s.countSent.diag := by
  intro sound
  grind [State.countSent, State.setDiag_diag, satAdd_half_bounds]

theorem State.countLost_rises (s : State) : s.diag.Rises s.countLost.diag := by
  intro sound
  grind [State.countLost, State.setDiag_diag, satAdd_half_bounds]

theorem State.countValid_rises (s : State) : s.diag.Rises s.countValid.diag := by
  intro sound
  grind [State.countValid, State.setDiag_diag, satAdd_half_bounds]

theorem State.countUnclaimed_rises (s : State) : s.diag.Rises s.countUnclaimed.diag := by
  intro sound
  grind [State.countUnclaimed, State.setDiag_diag, satAdd_half_bounds]

theorem State.clash_rises (s : State) (tag : Tag) (n : SlotNo) : s.diag.Rises (s.clash tag n).diag := by
  intro sound
  grind [State.clash, State.raise_diag, State.setDiag_diag, satAdd_half_bounds]

/-! ### The frames of the bus -/

@[simp] theorem State.claimPublish_diag (s : State) (n : SlotNo) (tag : Tag) (payload : List Byte) :
    (s.claimPublish n tag payload).diag = s.diag := by
  unfold State.claimPublish State.store; split <;> simp

@[simp] theorem State.claimQuery_diag (s : State) (n : SlotNo) (tag : Tag) : (s.claimQuery n tag).diag = s.diag := by
  unfold State.claimQuery; split <;> simp

@[simp] theorem State.catchFrame_diag (s : State) (f : BusFrame) : (s.catchFrame f).diag = s.diag := by
  unfold State.catchFrame State.catchAppend State.catchDrop; split <;> simp

@[simp] theorem State.settle_diag (s : State) (rec : TxRecord) (o : Outcome) : (s.settle rec o).diag = s.diag := by
  obtain ⟨-, -, -, -, -, diag, -⟩ := s.settle_frame rec o
  exact diag

theorem State.unclaimed_rises (s : State) (f : BusFrame) : s.diag.Rises (s.unclaimed f).diag := by
  unfold State.unclaimed
  split
  · exact .of_eq (s.catchFrame_diag f)
  · exact s.countUnclaimed_rises

/-- R27: of the fates of a frame, the clash and the unclaimed frame count. -/
theorem State.accept_rises (s : State) (f : BusFrame) (sender : Option SlotNo) :
    s.diag.Rises (s.accept f sender).diag := by
  rcases s.accept_cases f sender with ⟨n, h⟩ | ⟨n, payload, -, h⟩ | ⟨n, -, h⟩ | h <;> rw [h]
  · exact s.clash_rises f.tag n
  · exact .of_eq (s.claimPublish_diag n f.tag payload)
  · exact .of_eq (s.claimQuery_diag n f.tag)
  · exact s.unclaimed_rises f

theorem State.frameEnd_rises (s : State) (f : BusFrame) : s.diag.Rises (s.frameEnd f).diag := by
  unfold State.frameEnd
  split
  · exact s.countValid_rises.trans <| (s.countValid.accept_rises f none).trans <| .of_eq (State.engineEvent_diag ..)
  · exact .of_eq rfl

theorem State.loopBack_rises (s : State) (mode : Mode) (rec : TxRecord) : s.diag.Rises (s.loopBack mode rec).diag := by
  unfold State.loopBack
  split
  · exact s.countValid_rises.trans (s.countValid.accept_rises rec.frame (some rec.slot))
  · exact .of_eq rfl

theorem State.sentAccount_rises (s : State) : s.diag.Rises s.sentAccount.diag :=
  s.countSent_rises.trans <| .of_eq (State.engineEvent_diag ..)

theorem State.txSent_rises (s : State) : s.diag.Rises s.txSent.diag := by
  unfold State.txSent
  split
  · next rec _ =>
    split
    · exact (DiagCounters.Rises.of_eq (s.settle_diag rec .sent)).trans <|
        (State.sentAccount_rises _).trans (State.loopBack_rises _ _ _)
    · exact .of_eq rfl
  · exact .of_eq rfl

theorem State.txLost_rises (s : State) : s.diag.Rises s.txLost.diag := by
  unfold State.txLost
  split
  · next rec _ =>
    split
    · exact (DiagCounters.Rises.of_eq (s.settle_diag rec .lost)).trans (State.countLost_rises _)
    · exact .of_eq rfl
  · exact .of_eq rfl

theorem State.faultAccount_rises (s : State) (kind : FaultKind) (tag : Option Tag) :
    s.diag.Rises (s.faultAccount kind tag).diag :=
  (s.diag.countFault_rises kind).trans <| .of_eq (by simp [State.faultAccount])

theorem State.txFaulted_rises (s : State) (kind : FaultKind) (afterTag : Bool) :
    s.diag.Rises (s.txFaulted kind afterTag).diag := by
  unfold State.txFaulted
  split
  · next rec _ =>
    split
    · exact (DiagCounters.Rises.of_eq (s.settle_diag rec _)).trans (State.faultAccount_rises _ _ _)
    · exact .of_eq rfl
  · exact .of_eq rfl

theorem State.rxFault_rises (s : State) (kind : FaultKind) (tag : Option Tag) :
    s.diag.Rises (s.rxFault kind tag).diag := by
  unfold State.rxFault
  split
  · exact (s.diag.countFault_rises kind).trans <| .of_eq (by simp)
  · exact .of_eq rfl

/-! ### The host's requests -/

/-- What a request leaves of the counters is what its effect leaves of them. -/
theorem State.request_diag {α : Type} (s : State) (code : Byte) (parse : List Byte → Except Reply α)
    {run : α → State → State × Reply} (after : Processor) (kept : ∀ a t, (run a t).1.diag = t.diag) :
    (s.request code parse run after).diag = s.diag := by
  rcases s.request_cases code parse run after with h | ⟨r, -, -, ⟨rep, -, h⟩ | ⟨a, -, h⟩⟩ <;> rw [h]
  · rfl
  · exact kept a s.dropRequest

theorem doSetTiming_diag (a : Rate × SamplePoint) (s : State) : (doSetTiming a s).1.diag = s.diag := by
  unfold doSetTiming; split <;> rfl

theorem doSetMode_diag (m : Mode) (s : State) : (doSetMode m s).1.diag = s.diag := by
  unfold doSetMode; split <;> rfl

theorem doGoOnline_diag (u : Unit) (s : State) : (doGoOnline u s).1.diag = s.diag := by
  unfold doGoOnline; split <;> simp

@[simp] theorem State.goOfflineNow_diag (s : State) : s.goOfflineNow.1.diag = s.diag := by simp [State.goOfflineNow]

@[simp] theorem State.goStopping_diag (s : State) : s.goStopping.1.diag = s.diag := by simp [State.goStopping]

@[simp] theorem State.useFree_diag (s : State) : s.useFree.diag = s.diag := by
  unfold State.useFree; split <;> rfl

theorem doGoOffline_diag (u : Unit) (s : State) : (doGoOffline u s).1.diag = s.diag := by
  unfold doGoOffline
  split
  · split <;> simp
  all_goals simp

theorem doConfigSlot_diag (a : SlotNo × SlotConfig) (s : State) : (doConfigSlot a s).1.diag = s.diag := by
  unfold doConfigSlot; split <;> rfl

theorem doEnableSlot_diag (n : SlotNo) (s : State) : (doEnableSlot n s).1.diag = s.diag := by
  unfold doEnableSlot
  split
  · rfl
  · split
    · rfl
    · split <;> rfl

theorem doDisableSlot_diag (n : SlotNo) (s : State) : (doDisableSlot n s).1.diag = s.diag := by
  unfold doDisableSlot
  split
  · rfl
  · rfl
  · split <;> rfl

theorem doWriteSlot_diag (a : SlotNo × Bool × List Byte) (s : State) : (doWriteSlot a s).1.diag = s.diag := by
  simp only [doWriteSlot]; repeat' split
  all_goals rfl

theorem doReadSlot_diag (a : SlotNo × Bool) (s : State) : (doReadSlot a s).1.diag = s.diag := by
  simp only [doReadSlot]; split <;> rfl

theorem askReason_diag (role : Role) (reason : Reason) (n : SlotNo) (s : State) :
    (askReason role reason n s).1.diag = s.diag := by
  simp only [askReason]; repeat' split
  all_goals rfl

theorem doAbortSlot_diag (n : SlotNo) (s : State) : (doAbortSlot n s).1.diag = s.diag := by
  simp only [doAbortSlot]; repeat' split
  all_goals rfl

theorem doTakeCatch_diag (peek : Bool) (s : State) : (doTakeCatch peek s).1.diag = s.diag := by
  unfold doTakeCatch
  split
  · rfl
  · split <;> rfl

theorem doNoticeControl_diag (a : NoticeSetting) (s : State) : (doNoticeControl a s).1.diag = s.diag := by
  simp only [doNoticeControl]
  split
  · rfl
  · split <;> rfl

@[simp] theorem State.refuseUnknown_diag (s : State) : s.refuseUnknown.diag = s.diag := by
  unfold State.refuseUnknown
  split
  · split <;> rfl
  · rfl

/-! ### The other commands -/

@[simp] theorem State.deliver_diag (s : State) : s.deliver.diag = s.diag := by
  unfold State.deliver
  split
  · split <;> rfl
  · rfl

@[simp] theorem State.selection_diag (s : State) : s.selection.diag = s.diag := by
  unfold State.selection
  split
  · split <;> rfl
  · rfl

@[simp] theorem State.stopComplete_diag (s : State) : s.stopComplete.diag = s.diag := by
  unfold State.stopComplete; split <;> simp

@[simp] theorem State.syncComplete_diag (s : State) : s.syncComplete.diag = s.diag := by
  unfold State.syncComplete; split <;> simp

@[simp] theorem State.recoveryInterval_diag (s : State) : s.recoveryInterval.diag = s.diag := by
  unfold State.recoveryInterval; split <;> simp

@[simp] theorem State.busStuck_diag (s : State) : s.busStuck.diag = s.diag := by
  unfold State.busStuck; split <;> simp

@[simp] theorem State.startBit_diag (s : State) : s.startBit.diag = s.diag := by
  unfold State.startBit; split <;> rfl

@[simp] theorem State.periodExpiry_diag (s : State) (n : SlotNo) : (s.periodExpiry n).diag = s.diag := by
  unfold State.periodExpiry; split <;> rfl

@[simp] theorem State.deadlineExpiry_diag (s : State) (n : SlotNo) : (s.deadlineExpiry n).diag = s.diag := by
  unfold State.deadlineExpiry; split <;> simp

theorem State.foldl_takeExpiry_diag (slots : List SlotNo) (s : State) :
    (slots.foldl State.takeExpiry s).diag = s.diag := by
  induction slots generalizing s with
  | nil => rfl
  | cons n slots ih =>
    rw [List.foldl_cons, ih, State.takeExpiry, State.deadlineExpiry_diag, State.periodExpiry_diag]

@[simp] theorem State.takePassedBurst_diag (s : State) : s.takePassedBurst.diag = s.diag := by
  rcases s.takePassedBurst_cases with ⟨-, h⟩ | ⟨-, -, h⟩ | ⟨-, -, h⟩ <;> rw [h] <;> simp

@[simp] theorem State.takeOverdue_diag (s : State) : s.takeOverdue.diag = s.diag := by
  rw [State.takeOverdue, State.setLink_diag, State.takePassedBurst_diag, State.busStuck_diag,
    State.foldl_takeExpiry_diag]

theorem exec_partClockAdvance (s : State) : exec .partClockAdvance s = .next s.takeOverdue.tick := rfl

@[simp] theorem State.tick_diag (s : State) : s.tick.diag = s.diag := rfl

/-! ### What a command does to the counters (R170) -/

/-- The commands that set the counters to 0: a power-up, a restart that takes effect, and a DIAG_COUNTS that takes its
request with the clear flag set. -/
def State.ClearedBy (s : State) (c : Instr) : Prop :=
  (∃ a b, c = .powerUp a b) ∨
    (c = .restartTakeEffect ∧ s.link.processor = .restartReplyOnLine) ∨
    (c = .diagCounts ∧ ∃ r, s.Takes r ∧ r.kind = 0x08 ∧ r.body = [1])

theorem State.request_diagCounts_diag (s : State) :
    (s.request 0x08 parseFlag doDiagCounts).diag = s.diag ∨
      ((s.request 0x08 parseFlag doDiagCounts).diag = .zero ∧ s.ClearedBy .diagCounts) := by
  rcases s.request_cases 0x08 parseFlag doDiagCounts .replyWaiting
    with h | ⟨r, taken, kind, ⟨rep, -, h⟩ | ⟨clear, parsed, h⟩⟩ <;> rw [h]
  · exact .inl rfl
  · exact .inl rfl
  · cases clear with
    | false => exact .inl rfl
    | true => exact .inr ⟨rfl, .inr (.inr ⟨rfl, r, taken, kind, parseFlag_eq_ok_iff.mp parsed⟩)⟩

/-- A command sets the counters to 0, or lowers none of them. -/
theorem exec_diag_cases {c : Instr} {s t : State} (run : exec c s = .next t) :
    s.diag.Rises t.diag ∨ (t.diag = .zero ∧ s.ClearedBy c) := by
  cases c with
  | powerUp a b => cases run; exact .inr ⟨rfl, .inl ⟨a, b, rfl⟩⟩
  | restartTakeEffect =>
    cases run
    unfold State.restart
    split
    · next online => exact .inr ⟨rfl, .inr (.inl ⟨rfl, online⟩)⟩
    · exact .inl (.of_eq rfl)
  | diagCounts =>
    cases run
    exact s.request_diagCounts_diag.imp .of_eq id
  | frameEnd f =>
    simp only [exec, execFrameEnd] at run
    split at run <;> cases run
    exact .inl (s.frameEnd_rises f)
  | txSent => cases run; exact .inl s.txSent_rises
  | txLost => cases run; exact .inl s.txLost_rises
  | txFaulted kind afterTag =>
    simp only [exec, execTxFaulted] at run
    split at run <;> cases run
    exact .inl (s.txFaulted_rises kind afterTag)
  | rxFault kind tag =>
    simp only [exec, execRxFault] at run
    split at run <;> cases run
    exact .inl (s.rxFault_rises kind tag)
  | identify => cases run; exact .inl (.of_eq (s.request_diag _ _ _ fun _ _ => rfl))
  | restart => cases run; exact .inl (.of_eq (s.request_diag _ _ _ fun _ _ => rfl))
  | setTiming => cases run; exact .inl (.of_eq (s.request_diag _ _ _ doSetTiming_diag))
  | setMode => cases run; exact .inl (.of_eq (s.request_diag _ _ _ doSetMode_diag))
  | goOnline => cases run; exact .inl (.of_eq (s.request_diag _ _ _ doGoOnline_diag))
  | goOffline => cases run; exact .inl (.of_eq (s.request_diag _ _ _ doGoOffline_diag))
  | engineStatus => cases run; exact .inl (.of_eq (s.request_diag _ _ _ fun _ _ => rfl))
  | setMasks => cases run; exact .inl (.of_eq (s.request_diag _ _ _ fun _ _ => rfl))
  | configSlot => cases run; exact .inl (.of_eq (s.request_diag _ _ _ doConfigSlot_diag))
  | enableSlot => cases run; exact .inl (.of_eq (s.request_diag _ _ _ doEnableSlot_diag))
  | disableSlot => cases run; exact .inl (.of_eq (s.request_diag _ _ _ doDisableSlot_diag))
  | writeSlot => cases run; exact .inl (.of_eq (s.request_diag _ _ _ doWriteSlot_diag))
  | readSlot => cases run; exact .inl (.of_eq (s.request_diag _ _ _ doReadSlot_diag))
  | sendSlot => cases run; exact .inl (.of_eq (s.request_diag _ _ _ (askReason_diag _ _)))
  | querySlot => cases run; exact .inl (.of_eq (s.request_diag _ _ _ (askReason_diag _ _)))
  | abortSlot => cases run; exact .inl (.of_eq (s.request_diag _ _ _ doAbortSlot_diag))
  | setCatch => cases run; exact .inl (.of_eq (s.request_diag _ _ _ fun _ _ => rfl))
  | takeCatch => cases run; exact .inl (.of_eq (s.request_diag _ _ _ doTakeCatch_diag))
  | noticeControl => cases run; exact .inl (.of_eq (s.request_diag _ _ _ doNoticeControl_diag))
  | ackNotices => cases run; exact .inl (.of_eq (s.request_diag _ _ _ fun _ _ => rfl))
  | resyncNotices => cases run; exact .inl (.of_eq (s.request_diag _ _ _ fun _ _ => rfl))
  | requestUnknownKind => cases run; exact .inl (.of_eq s.refuseUnknown_diag)
  | hostFrameReceived bytes => cases run; exact .inl (.of_eq rfl)
  | lengthFault bytes => cases run; exact .inl (.of_eq rfl)
  | gapTimeout bytes => cases run; exact .inl (.of_eq rfl)
  | helloBegin => cases run; exact .inl (.of_eq rfl)
  | replyBegin => cases run; exact .inl (.of_eq rfl)
  | rejectBegin => cases run; exact .inl (.of_eq rfl)
  | noticeDelivery => cases run; exact .inl (.of_eq s.deliver_diag)
  | selection => cases run; exact .inl (.of_eq s.selection_diag)
  | stopComplete => cases run; exact .inl (.of_eq s.stopComplete_diag)
  | syncComplete => cases run; exact .inl (.of_eq s.syncComplete_diag)
  | recoveryInterval => cases run; exact .inl (.of_eq s.recoveryInterval_diag)
  | busStuck => cases run; exact .inl (.of_eq s.busStuck_diag)
  | periodExpiry n => cases run; exact .inl (.of_eq (s.periodExpiry_diag n))
  | deadlineExpiry n => cases run; exact .inl (.of_eq (s.deadlineExpiry_diag n))
  | partClockAdvance =>
    rw [exec_partClockAdvance] at run
    rw [← Host.Outcome.next.inj run]
    exact .inl (.of_eq (s.takeOverdue.tick_diag.trans s.takeOverdue_diag))
  | startBitRead => cases run; exact .inl (.of_eq s.startBit_diag)

/-- R169: whatever the command, the counters stay within their 16 bits. -/
theorem exec_keeps_diag_sound {c : Instr} {s t : State} (sound : s.diag.Sound) (run : exec c s = .next t) :
    t.diag.Sound := by
  rcases exec_diag_cases run with rises | ⟨zero, -⟩
  · exact (rises sound).2
  · rw [zero]; decide

theorem step_keeps_diag_sound {s t : State} (sound : s.diag.Sound) (run : step s = .next t) : t.diag.Sound := by
  unfold step at run
  split at run
  · cases run; exact sound
  · next c rest _ => exact exec_keeps_diag_sound (s := s.setPending rest) sound run

/-- Settles O15: by what a command does to the counters, of which only the excluded commands can set them to 0. -/
theorem onlyResetsAndDiagCountsLowerCounters : Obligations.OnlyResetsAndDiagCountsLowerCounters := by
  refine ⟨fun a b s => ⟨_, rfl, rfl⟩, fun s online => ?restart, fun s r taken kind body => ?cleared,
    fun c s t sound noPowerUp noRestart noClear run => ?rises, fun s t => step_keeps_diag_sound⟩
  case restart => exact ⟨_, rfl, by rw [State.restart, if_pos online]; rfl⟩
  case cleared => exact ⟨_, exec_diagCounts_of_flag (clear := true) taken kind body, rfl⟩
  case rises =>
    rcases exec_diag_cases run with
      rises | ⟨-, ⟨a, b, powerUp⟩ | ⟨restart, -⟩ | ⟨diagCounts, r, taken, kind, body⟩⟩
    · exact (rises sound).1
    · exact absurd powerUp (noPowerUp a b)
    · exact absurd restart noRestart
    · exact absurd body (noClear diagCounts r taken kind)

end Sys2Proof.Machine
end

section
/-! PROOFS. Which changes of one slot record keep its law (01_the_slot_table.md, R3 to R13). -/

namespace Sys2Proof.Machine

-- The declarations are elaborated in turn: one thread does for the whole file.
set_option Elab.async false

theorem satAdd_byte_le (n k : Nat) : satAdd Config.byteMax n k ≤ 255 := Nat.min_le_left _ _

theorem slotStamp_ne_zero (clock : Stamp) : slotStamp clock ≠ 0 := by
  unfold slotStamp; split
  · decide
  · assumption

/-! ### Timers (R13) -/

theorem Timer.start_within (interval : Nat) : (Timer.start interval).within interval = true := by
  unfold Timer.start; split
  · rfl
  · simp [Timer.within]; omega

theorem Timer.start_eq_stopped_iff (interval : Nat) : Timer.start interval = .stopped ↔ interval = 0 := by
  simp [Timer.start]

theorem Timer.tick_within {interval : Nat} {t : Timer} (within : t.within interval = true) :
    t.tick.within interval = true := by
  cases t with
  | stopped => rfl
  | due => rfl
  | running ms =>
    simp only [Timer.tick]; split
    · rfl
    · simp [Timer.within] at within ⊢; omega

theorem Timer.tick_eq_stopped_iff (t : Timer) : t.tick = .stopped ↔ t = .stopped := by
  cases t with
  | running ms => simp [Timer.tick]; split <;> simp
  | _ => simp [Timer.tick]

/-- A timer started at the full interval, of an ENABLED slot whatever its role. -/
theorem Slot.timerSound_start {x : Slot} (timer : x.timer = .start x.cfg.interval) : x.TimerSound := by
  refine ⟨timer ▸ Timer.start_within _, fun zero => ?_, fun ⟨_, _, running⟩ => ?_⟩
  · rw [timer, Timer.start_eq_stopped_iff]; exact zero
  · rw [timer, Ne, Timer.start_eq_stopped_iff]; exact running

/-- A stopped timer, of any slot but an ENABLED publish slot. -/
theorem Slot.timerSound_stopped {x : Slot} (timer : x.timer = .stopped)
    (noPeriod : ¬ (x.cfg.role = .publish ∧ x.life = .enabled)) : x.TimerSound :=
  ⟨by rw [timer]; rfl, fun _ => timer, fun ⟨role, life, _⟩ => absurd ⟨role, life⟩ noPeriod⟩

/-! ### Reasons and marks (R7) -/

theorem Reasons.isEmpty_iff (r : Reasons) : r.isEmpty = true ↔ r.send = false ∧ r.answer = false ∧ r.query = false := by
  simp [Reasons.isEmpty, and_assoc]

theorem Reasons.isEmpty_add (r : Reasons) (a : Reason) : (r.add a).isEmpty = false := by
  cases a <;> simp [Reasons.add, Reasons.isEmpty]

/-- R7: the reasons a slot of a role can have. -/
def Role.wants : Role → Reason → Bool
  | .publish, .send => true
  | .publish, .answer => true
  | .subscribe, .query => true
  | _, _ => false

/-- R7: a set holds only reasons that a slot of the role can have. -/
def Reasons.Fit (role : Role) (r : Reasons) : Prop :=
  (role ≠ .publish → r.send = false ∧ r.answer = false) ∧ (role ≠ .subscribe → r.query = false)

theorem Reasons.fit_empty (role : Role) : Reasons.empty.Fit role := ⟨fun _ => ⟨rfl, rfl⟩, fun _ => rfl⟩

theorem Reasons.Fit.add {role : Role} {r : Reasons} {a : Reason} (fit : r.Fit role) (wants : role.wants a = true) :
    (r.add a).Fit role := by
  cases role <;> cases a <;> simp_all [Reasons.Fit, Reasons.add, Role.wants]

/-- The law of life, transmit state, reasons and marks, of an ENABLED slot. -/
theorem Slot.lifeSound_iff_of_enabled {x : Slot} (life : x.life = .enabled) :
    x.LifeSound ↔ x.cfg.role ≠ .none ∧ (x.tx = .idle ↔ x.reasons.isEmpty = true) ∧
      (x.again = true ∨ x.abort = true → x.tx = .onBus) ∧ x.reasons.Fit x.cfg.role := by
  simp [Slot.LifeSound, Reasons.Fit, life]

theorem Slot.lifeSound_of_enabled {x : Slot} (life : x.life = .enabled) (role : x.cfg.role ≠ .none)
    (idle : x.tx = .idle ↔ x.reasons.isEmpty = true) (marks : x.again = true ∨ x.abort = true → x.tx = .onBus)
    (fit : x.reasons.Fit x.cfg.role) : x.LifeSound :=
  (Slot.lifeSound_iff_of_enabled life).mpr ⟨role, idle, marks, fit⟩

/-- The law of life, transmit state, reasons and marks, of an IDLE slot with no reasons and no marks. -/
theorem Slot.lifeSound_of_idle {x : Slot} (tx : x.tx = .idle) (reasons : x.reasons = .empty) (again : x.again = false)
    (abort : x.abort = false) (role : x.life = .enabled → x.cfg.role ≠ .none)
    (life : x.life = .enabled ∨ (x.life = .disabled ∧ x.timer = .stopped ∧ x.retries = 0)) : x.LifeSound := by
  rcases life with life | ⟨life, timer, retries⟩
  · exact (Slot.lifeSound_iff_of_enabled life).mpr
      ⟨role life, by simp [tx, reasons, Reasons.isEmpty, Reasons.empty], by simp [again, abort], reasons ▸ Reasons.fit_empty _⟩
  · simp [Slot.LifeSound, life, tx, reasons, again, abort, timer, retries, Reasons.isEmpty, Reasons.empty]

theorem RetryLimit.allows_zero (l : RetryLimit) : l.allows 0 = true := by
  cases l <;> simp [RetryLimit.allows]

theorem Slot.retriesSound_zero {x : Slot} (retries : x.retries = 0) : x.RetriesSound :=
  ⟨by omega, by rw [retries]; exact RetryLimit.allows_zero _⟩

/-! ### The requests on a slot (R15 to R19, R47, R50) -/

/-- R47: a reason that the slot's role can have. -/
theorem Slot.want_sound {x : Slot} {r : Reason} (sound : x.Sound) (life : x.life = .enabled)
    (wants : x.cfg.role.wants r = true) : (x.want r).Sound := by
  obtain ⟨cfg, retries, lifeSound, data, counts, timer⟩ := sound
  obtain ⟨role, -, marks, fit⟩ := (Slot.lifeSound_iff_of_enabled life).mp lifeSound
  have waiting : ∀ tx, tx ≠ .idle → tx ≠ .onBus → x.tx ≠ .onBus →
      Slot.LifeSound { x with reasons := x.reasons.add r, tx := tx } := by
    intro tx idle onBus before
    refine Slot.lifeSound_of_enabled life role ?_ (fun marked => absurd (marks marked) before) (fit.add wants)
    simp [idle, Reasons.isEmpty_add]
  unfold Slot.want
  split
  · next idle => exact ⟨cfg, retries, waiting .pending nofun nofun (by simp [idle]), data, counts, timer⟩
  · next pending =>
    have same := waiting x.tx (by simp [pending]) (by simp [pending]) (by simp [pending])
    exact ⟨cfg, retries, same, data, counts, timer⟩
  · next onBus =>
    have marked : ∀ again, Slot.LifeSound { x with again := again } := fun again => by
      obtain ⟨a, b, c, d, -, e⟩ := lifeSound
      exact ⟨a, b, c, d, fun _ => onBus, e⟩
    cases r with
    | answer => exact ⟨cfg, retries, lifeSound, data, counts, timer⟩
    | send => exact ⟨cfg, retries, marked true, data, counts, timer⟩
    | query => exact ⟨cfg, retries, marked true, data, counts, timer⟩

theorem Slot.giveUp_sound {x : Slot} (sound : x.Sound) (life : x.life = .enabled) : x.giveUp.Sound := by
  obtain ⟨cfg, -, ⟨role, -⟩, data, counts, timer⟩ := sound
  have lifeSound : x.giveUp.LifeSound :=
    Slot.lifeSound_of_idle rfl rfl rfl rfl (fun _ => role (by simp [life])) (.inl life)
  exact ⟨cfg, Slot.retriesSound_zero rfl, lifeSound, data, counts, timer⟩

theorem Slot.disable_sound {x : Slot} (sound : x.Sound) : x.disable.Sound := by
  obtain ⟨cfg, -, -, data, counts, -⟩ := sound
  exact ⟨cfg, Slot.retriesSound_zero rfl, Slot.lifeSound_of_idle rfl rfl rfl rfl nofun (.inr ⟨rfl, rfl, rfl⟩), data,
    counts, Slot.timerSound_stopped rfl nofun⟩

theorem Slot.enable_sound {x : Slot} (sound : x.Sound) (life : x.life = .disabled) (role : x.cfg.role ≠ .none) :
    x.enable.Sound := by
  obtain ⟨cfg, retries, ⟨-, disabled, -, idle, marks, fitPublish, fitSubscribe⟩, data, counts, -⟩ := sound
  obtain ⟨tx, -, -⟩ := disabled life
  have lifeSound : x.enable.LifeSound := Slot.lifeSound_of_enabled rfl role
    ⟨fun _ => idle.mp tx, fun _ => rfl⟩ (fun marked => absurd (marks marked) (by simp [tx])) ⟨fitPublish, fitSubscribe⟩
  exact ⟨cfg, retries, lifeSound, data, counts, Slot.timerSound_start rfl⟩

theorem Slot.drain_sound {x : Slot} (sound : x.Sound) (life : x.life = .enabled) (onBus : x.tx = .onBus) :
    x.drain.Sound := by
  obtain ⟨cfg, retries, ⟨role, -, -, idle, marks, fit⟩, data, counts, -⟩ := sound
  have lifeSound : x.drain.LifeSound :=
    ⟨fun _ => role (by simp [life]), nofun, fun _ => ⟨onBus, rfl⟩, idle, marks, fit⟩
  exact ⟨cfg, retries, lifeSound, data, counts, Slot.timerSound_stopped rfl nofun⟩

/-- R18: a payload of the configured length, and SEND with the send flag only on an ENABLED slot. -/
theorem Slot.write_sound {x : Slot} {send : Bool} {payload : List Byte} (sound : x.Sound)
    (role : x.cfg.role = .publish) (length : x.cfg.length = .exact payload.length) (fits : payload.length ≤ 16)
    (life : send = true → x.life = .enabled) : (x.write send payload).Sound := by
  have written : Slot.Sound { x with payload := payload } := by
    obtain ⟨cfg, retries, lifeSound, ⟨-, -, -, -, value⟩, counts, timer⟩ := sound
    have data : Slot.DataSound { x with payload := payload } :=
      ⟨fits, by simp [role], fun _ => length, by simp [role], value⟩
    exact ⟨cfg, retries, lifeSound, data, counts, timer⟩
  cases send with
  | false => exact written
  | true => exact Slot.want_sound written (life rfl) (by simp [role, Role.wants])

theorem Slot.consume_sound {x : Slot} (sound : x.Sound) : x.consume.Sound := by
  unfold Slot.consume
  split
  · next role =>
    obtain ⟨cfg, retries, lifeSound, ⟨fits, -, -, value, -, fresh⟩, ⟨-, rejects, skipped, -, noPeriods⟩, timer⟩ := sound
    have seen : (if x.dataState = .fresh then .seen else x.dataState) = DataState.empty ↔ x.dataState = .empty := by
      split <;> simp_all
    have data : Slot.DataSound
        { x with dataState := if x.dataState = .fresh then .seen else x.dataState, overrun := 0 } := by
      simpa [Slot.DataSound, role, seen, fits] using ⟨value role, fresh⟩
    exact ⟨cfg, retries, lifeSound, data, ⟨by simp, rejects, skipped, fun other => absurd role other, noPeriods⟩, timer⟩
  · exact sound

theorem Slot.abortMarked_sound {x : Slot} (sound : x.Sound) (onBus : x.tx = .onBus) :
    Slot.Sound { x with abort := true } := by
  obtain ⟨cfg, retries, ⟨role, disabled, draining, idle, -, fit⟩, data, counts, timer⟩ := sound
  exact ⟨cfg, retries, ⟨role, disabled, draining, idle, fun _ => onBus, fit⟩, data, counts, timer⟩

theorem Slot.setNotify_sound {x : Slot} {notify : Bool} (sound : x.Sound) (role : x.cfg.role ≠ .none) :
    (x.setNotify notify).Sound := by
  obtain ⟨⟨-, cfg⟩, retries, lifeSound, data, counts, timer⟩ := sound
  exact ⟨⟨fun none => absurd none role, cfg⟩, retries, lifeSound, data, counts, timer⟩

/-- R3: the fields of a configuration are in range. -/
structure SlotConfig.InRange (cfg : SlotConfig) : Prop where
  length : cfg.length.inRange = true
  publish : cfg.role = .publish → cfg.length ≠ .any
  interval : cfg.interval ≤ 60000
  retryLimit : cfg.retryLimit.inRange = true

theorem SlotConfig.InRange.stored_sound {cfg : SlotConfig} (range : cfg.InRange) : cfg.stored.Sound := by
  obtain ⟨length, publish, interval, retryLimit⟩ := range
  unfold SlotConfig.stored
  cases role : cfg.role with
  | none => simp [SlotConfig.Sound, SlotConfig.neutral, CfgLength.inRange, RetryLimit.inRange]
  | publish => simp [SlotConfig.Sound, role, length, publish role, interval, retryLimit]
  | subscribe => simp [SlotConfig.Sound, length, interval, retryLimit]

theorem Slot.configured_sound {cfg : SlotConfig} (sound : cfg.Sound) : (Slot.configured cfg).Sound := by
  have lifeSound : (Slot.configured cfg).LifeSound :=
    Slot.lifeSound_of_idle rfl rfl rfl rfl nofun (.inr ⟨rfl, rfl, rfl⟩)
  have data : (Slot.configured cfg).DataSound := by
    obtain ⟨-, publish, -, -, length, -⟩ := sound
    cases role : cfg.role with
    | none => simp [Slot.DataSound, Slot.configured, Slot.reset, role]
    | subscribe => simp [Slot.DataSound, Slot.configured, Slot.reset, role]
    | publish =>
      cases len : cfg.length with
      | any => exact absurd len (publish role)
      | exact n =>
        rw [len] at length
        simpa [Slot.DataSound, Slot.configured, Slot.reset, role, len, CfgLength.inRange] using length
  exact ⟨sound, Slot.retriesSound_zero rfl, lifeSound, data, by simp [Slot.CountsSound, Slot.configured, Slot.reset],
    Slot.timerSound_stopped rfl nofun⟩

/-! ### What the bus does to a slot (R30 to R32, R58 to R69) -/

theorem Slot.lengthReject_sound {x : Slot} (sound : x.Sound) (role : x.cfg.role = .subscribe) :
    x.lengthReject.Sound := by
  obtain ⟨cfg, retries, lifeSound, data, ⟨overrun, -, skipped, -, publish⟩, timer⟩ := sound
  exact ⟨cfg, retries, lifeSound, data, ⟨overrun, satAdd_byte_le _ _, skipped, fun other => absurd role other, publish⟩,
    timer⟩

/-- R32: a store on a subscribe slot, which has no reason but QUERY. -/
theorem Slot.answered_sound {x : Slot} (sound : x.Sound) (life : x.life = .enabled) (role : x.cfg.role = .subscribe) :
    x.answered.Sound := by
  unfold Slot.answered
  split
  · next asked =>
    obtain ⟨cfg, -, lifeSound, data, counts, timer⟩ := sound
    obtain ⟨some, -, marks, ⟨noSend, -⟩⟩ := (Slot.lifeSound_iff_of_enabled life).mp lifeSound
    obtain ⟨send, answer⟩ := noSend (by simp [role])
    have emptied : x.reasons.dropQuery = .empty := by simp [Reasons.dropQuery, Reasons.empty, send, answer]
    have unmarked : x.again = false ∧ x.abort = false := by
      rw [Bool.and_eq_true, decide_eq_true_eq] at asked
      obtain ⟨-, notOnBus⟩ := asked
      exact ⟨Bool.eq_false_iff.mpr fun again => notOnBus (marks (.inl again)),
        Bool.eq_false_iff.mpr fun abort => notOnBus (marks (.inr abort))⟩
    refine ⟨cfg, Slot.retriesSound_zero rfl, ?_, data, counts, timer⟩
    exact Slot.lifeSound_of_idle (by simp [emptied, Reasons.isEmpty, Reasons.empty]) emptied unmarked.1 unmarked.2
      (fun _ => some) (.inl life)
  · exact sound

theorem Slot.store_sound {x : Slot} {clock : Stamp} {payload : List Byte} (sound : x.Sound) (life : x.life = .enabled)
    (role : x.cfg.role = .subscribe) (accepts : x.cfg.length.accepts payload.length = true)
    (fits : payload.length ≤ 16) : (x.store clock payload).Sound := by
  obtain ⟨cfg, retries, lifeSound, -, ⟨overrun, rejects, skipped, -, publish⟩, -⟩ := sound
  obtain ⟨role', idle, marks, fit⟩ := (Slot.lifeSound_iff_of_enabled life).mp lifeSound
  refine Slot.answered_sound ⟨cfg, retries, ?_, ?_, ?_, Slot.timerSound_start rfl⟩ life role
  · exact Slot.lifeSound_of_enabled life role' idle marks fit
  · simpa [Slot.DataSound, role, fits, accepts] using slotStamp_ne_zero clock
  · refine ⟨?_, rejects, skipped, fun other => absurd role other, publish⟩
    change (if _ then _ else _) ≤ _
    split
    · exact satAdd_byte_le _ _
    · exact overrun

/-- R55, R56: a candidate goes ON_BUS. -/
theorem Slot.onBus_sound {x : Slot} (sound : x.Sound) (candidate : x.candidate = true) :
    Slot.Sound { x with tx := .onBus } := by
  obtain ⟨life, pending⟩ : x.life = .enabled ∧ x.tx = .pending := by simpa [Slot.candidate] using candidate
  obtain ⟨cfg, retries, lifeSound, data, counts, timer⟩ := sound
  obtain ⟨role, idle, -, fit⟩ := (Slot.lifeSound_iff_of_enabled life).mp lifeSound
  have waiting : x.reasons.isEmpty ≠ true := fun empty => by simp [idle.mpr empty] at pending
  refine ⟨cfg, retries, Slot.lifeSound_of_enabled life role ?_ (fun _ => rfl) fit, data, counts, timer⟩
  simp [waiting]

/-- R65 to R69: what an outcome may leave of a slot before its life and marks are settled. -/
structure Slot.Settleable (x : Slot) : Prop where
  cfg : x.cfg.Sound
  retries : x.RetriesSound
  data : x.DataSound
  counts : x.CountsSound
  timer : x.TimerSound
  role : x.cfg.role ≠ .none
  life : x.life ≠ .disabled
  fit : x.reasons.Fit x.cfg.role

theorem Role.wants_againReason {x : Slot} (role : x.cfg.role ≠ .none) :
    x.cfg.role.wants x.againReason = true := by
  unfold Slot.againReason
  cases h : x.cfg.role <;> simp_all [Role.wants]

theorem Slot.Settleable.endFrame_sound {x : Slot} (ready : x.Settleable) : x.endFrame.Sound := by
  obtain ⟨cfg, retries, data, counts, timer, role, life, fit⟩ := ready
  unfold Slot.endFrame
  split
  · exact ⟨cfg, Slot.retriesSound_zero rfl, Slot.lifeSound_of_idle rfl rfl rfl rfl nofun (.inr ⟨rfl, rfl, rfl⟩), data,
      counts, Slot.timerSound_stopped rfl nofun⟩
  · next notDraining =>
    have enabled : x.life = .enabled := by cases h : x.life <;> simp_all
    split
    · exact ⟨cfg, Slot.retriesSound_zero rfl,
        Slot.lifeSound_of_idle rfl rfl rfl rfl (fun _ => role) (.inl enabled), data, counts, timer⟩
    · next unaborted =>
      split
      · refine ⟨cfg, retries, Slot.lifeSound_of_enabled enabled role ?_ ?_ ?_, data, counts, timer⟩
        · simp [Reasons.isEmpty_add]
        · simp [unaborted]
        · exact fit.add (Role.wants_againReason role)
      · next unmarked =>
        refine ⟨cfg, retries, Slot.lifeSound_of_enabled enabled role ?_ ?_ fit, data, counts, timer⟩
        · cases h : x.reasons.isEmpty <;> simp
        · simp [unaborted, unmarked]

/-- R61: a Faulted outcome stays within the retry limit, or gives the reasons up. -/
theorem Slot.Settleable.faultedOutcome {x : Slot} (ready : x.Settleable) : x.faultedOutcome.Settleable := by
  obtain ⟨cfg, retries, data, counts, timer, role, life, fit⟩ := ready
  unfold Slot.faultedOutcome
  split
  · exact ⟨cfg, Slot.retriesSound_zero rfl, data, counts, timer, role, life, Reasons.fit_empty _⟩
  · next within =>
    refine ⟨cfg, ⟨satAdd_byte_le _ _, ?_⟩, data, counts, timer, role, life, fit⟩
    cases limit : x.cfg.retryLimit with
    | unlimited => rfl
    | limit n =>
      rw [Slot.exhausts, limit, decide_eq_true_eq] at within
      exact decide_eq_true (Nat.le_trans (Nat.min_le_right 255 _) (Nat.not_lt.mp within))

theorem Slot.Settleable.sentOutcome {x : Slot} {kind : FrameKind} {clock : Stamp} (ready : x.Settleable)
    (sends : kind = x.sends) : (x.sentOutcome kind clock).Settleable := by
  obtain ⟨cfg, -, data, counts, timer, role, life, -⟩ := ready
  cases kind with
  | query => exact ⟨cfg, Slot.retriesSound_zero rfl, data, counts, timer, role, life, Reasons.fit_empty _⟩
  | publish =>
    have publish : x.cfg.role = .publish := by
      unfold Slot.sends at sends
      split at sends
      · next publish => exact publish
      · cases sends
    obtain ⟨fits, -, length, -, value⟩ := data
    exact ⟨cfg, Slot.retriesSound_zero rfl, ⟨fits, fun none => absurd none role, length,
      fun other => absurd (publish.symm.trans other) nofun, value⟩, counts,
      timer, role, life, Reasons.fit_empty _⟩

/-- R58 to R69: the slot whose frame it was, once its outcome is taken. -/
theorem Slot.outcome_endFrame_sound {x : Slot} {o : Outcome} {kind : FrameKind} {clock : Stamp} (sound : x.Sound)
    (onBus : x.tx = .onBus) (sends : kind = x.sends) : (x.outcome o kind clock).endFrame.Sound := by
  obtain ⟨cfg, retries, ⟨role, disabled, -, -, -, fit⟩, data, counts, timer⟩ := sound
  have life : x.life ≠ .disabled := fun off => by
    obtain ⟨idle, -⟩ := disabled off
    simp [idle] at onBus
  have ready : x.Settleable := ⟨cfg, retries, data, counts, timer, role life, life, fit⟩
  cases o with
  | sent => exact (ready.sentOutcome sends).endFrame_sound
  | lost => exact ready.endFrame_sound
  | faulted => exact ready.faultedOutcome.endFrame_sound
  | exhausted => exact ready.faultedOutcome.endFrame_sound

/-! ### What the part clock does to a slot (R13, R41, R52) -/

theorem Slot.periodDue_iff (x : Slot) :
    x.periodDue = true ↔ x.cfg.role = .publish ∧ x.life = .enabled ∧ x.timer = .due := by
  simp [Slot.periodDue, and_assoc]

theorem Slot.deadlineDue_iff (x : Slot) :
    x.deadlineDue = true ↔ x.cfg.role = .subscribe ∧ x.life = .enabled ∧ x.timer = .due := by
  simp [Slot.deadlineDue, and_assoc]

theorem Slot.periodExpired_sound {x : Slot} (sound : x.Sound) (due : x.periodDue = true) : x.periodExpired.Sound := by
  obtain ⟨role, life, -⟩ := x.periodDue_iff.mp due
  obtain ⟨cfg, retries, lifeSound, data, ⟨overrun, rejects, skipped, others, -⟩, -⟩ := sound
  obtain ⟨role', idle, marks, fit⟩ := (Slot.lifeSound_iff_of_enabled life).mp lifeSound
  have reloaded : ∀ n, n ≤ 255 → Slot.Sound { x with timer := .start x.cfg.interval, skipped := n } := fun n most => by
    refine ⟨cfg, retries, ?_, data, ⟨overrun, rejects, most, others, fun other => absurd role other⟩,
      Slot.timerSound_start rfl⟩
    exact Slot.lifeSound_of_enabled life role' idle marks fit
  have wanted := Slot.want_sound (r := .send) (reloaded x.skipped skipped) life (by simp [role, Role.wants])
  have skips := reloaded _ (satAdd_byte_le x.skipped 1)
  simp only [Slot.periodExpired]
  split
  · exact wanted
  · split
    · exact skips
    · exact wanted
  · split
    · exact skips
    · exact wanted

theorem Slot.deadlineExpired_sound {x : Slot} (sound : x.Sound) (due : x.deadlineDue = true) :
    x.deadlineExpired.Sound := by
  obtain ⟨role, life, timer⟩ := x.deadlineDue_iff.mp due
  obtain ⟨cfg, retries, lifeSound, ⟨fits, none, length, value, -, -⟩, counts, -, stopped, -⟩ := sound
  obtain ⟨role', idle, marks, fit⟩ := (Slot.lifeSound_iff_of_enabled life).mp lifeSound
  have interval : x.cfg.interval ≠ 0 := fun zero => by simp [stopped zero] at timer
  refine ⟨cfg, retries, ?_, ⟨fits, none, length, value, fun other => absurd role other, fun zero => absurd zero interval⟩,
    counts, Slot.timerSound_stopped rfl (by simp [Slot.deadlineExpired, role])⟩
  exact Slot.lifeSound_of_enabled life role' idle marks fit

theorem Slot.tick_sound {x : Slot} (sound : x.Sound) : x.tick.Sound := by
  obtain ⟨cfg, retries, ⟨role, disabled, draining, rest⟩, data, counts, ⟨within, zero, period⟩⟩ := sound
  refine ⟨cfg, retries, ⟨role, fun off => ?_, fun drains => ?_, rest⟩, data, counts,
    ⟨Timer.tick_within within, fun h => ?_, fun h => ?_⟩⟩
  · obtain ⟨tx, timer, retries⟩ := disabled off
    exact ⟨tx, x.timer.tick_eq_stopped_iff.mpr timer, retries⟩
  · obtain ⟨tx, timer⟩ := draining drains
    exact ⟨tx, x.timer.tick_eq_stopped_iff.mpr timer⟩
  · exact x.timer.tick_eq_stopped_iff.mpr (zero h)
  · exact mt x.timer.tick_eq_stopped_iff.mp (period h)

end Sys2Proof.Machine
end

section
/-! PROOFS. The notice set: recording, numbering, delivery, and what keeps its law (07_notices.md, R126 to R140). -/

namespace Sys2Proof.Machine

-- The declarations are elaborated in turn: one thread does for the whole file.
set_option Elab.async false

/-! ### Keyed lists (R129, R132) -/

/-- The canonical form is the strict order of the ranks. -/
theorem keyedWf_iff_pairwise {α : Type} (l : List (Pair × α)) :
    keyedWf l = true ↔ l.Pairwise fun x y => x.1.rank < y.1.rank := by
  induction l with
  | nil => simp [keyedWf]
  | cons x l ih => rw [keyedWf_cons_iff, List.pairwise_cons, ih]

theorem keyedWf_filter {α : Type} {l : List (Pair × α)} (keep : Pair × α → Bool) (wf : keyedWf l = true) :
    keyedWf (l.filter keep) = true := by
  rw [keyedWf_iff_pairwise] at wf ⊢
  exact wf.filter keep

theorem forall_ne_of_keyedGet_eq_none {α : Type} {p : Pair} {l : List (Pair × α)} (absent : keyedGet p l = none) :
    ∀ x ∈ l, x.1 ≠ p := by
  induction l with
  | nil => nofun
  | cons x l ih =>
    obtain ⟨q, a⟩ := x
    by_cases same : q = p
    · simp [keyedGet, same] at absent
    · rw [keyedGet, if_neg same] at absent
      exact List.forall_mem_cons.mpr ⟨same, ih absent⟩

theorem mem_keyedPut {α : Type} {p : Pair} {f : Option α → α} {l : List (Pair × α)} {x : Pair × α}
    (mem : x ∈ keyedPut p f l) : x ∈ l ∨ x = (p, f none) ∨ ∃ a, (p, a) ∈ l ∧ x = (p, f (some a)) := by
  induction l with
  | nil => exact .inr (.inl (List.mem_singleton.mp mem))
  | cons y l ih =>
    obtain ⟨q, a⟩ := y
    unfold keyedPut at mem
    split at mem
    · next same =>
      subst same
      rcases List.mem_cons.mp mem with new | old
      · exact .inr (.inr ⟨a, List.mem_cons_self, new⟩)
      · exact .inl (List.mem_cons_of_mem _ old)
    · split at mem
      · exact (List.mem_cons.mp mem).elim (fun new => .inr (.inl new)) .inl
      · rcases List.mem_cons.mp mem with front | later
        · exact .inl (front ▸ List.mem_cons_self)
        · rcases ih later with old | new | ⟨b, hb, new⟩
          · exact .inl (List.mem_cons_of_mem _ old)
          · exact .inr (.inl new)
          · exact .inr (.inr ⟨b, List.mem_cons_of_mem _ hb, new⟩)

/-- A pair with no entry yet: the list is one entry longer, in some place. -/
theorem keyedPut_perm_of_absent {α : Type} {p : Pair} (f : Option α → α) {l : List (Pair × α)}
    (absent : ∀ x ∈ l, x.1 ≠ p) : (keyedPut p f l).Perm ((p, f none) :: l) := by
  induction l with
  | nil => exact .refl _
  | cons y l ih =>
    obtain ⟨q, a⟩ := y
    obtain ⟨other, rest⟩ := List.forall_mem_cons.mp absent
    unfold keyedPut
    rw [if_neg other]
    split
    · exact .refl _
    · exact ((ih rest).cons _).trans (.swap _ _ _)

/-! ### The law of an entry (R126, R128, R129, R140) -/

theorem Entry.fold_sound {p : Pair} {clock : Stamp} {d : Detail} {o : Option Entry} (fits : d.fits p = true)
    (sound : ∀ e ∈ o, e.Sound p) : (Entry.fold clock d o).Sound p := by
  cases o with
  | none => exact ⟨Nat.le_refl _, by simp [Entry.fold], fits⟩
  | some e =>
    obtain ⟨least, most, -⟩ := sound e rfl
    exact ⟨Nat.le_min.mpr ⟨by decide, by omega⟩, satAdd_byte_le _ _, fits⟩

theorem Entry.giveBack_sound {p : Pair} {e : Entry} {o : Option Entry} (sound : e.Sound p)
    (pending : ∀ q ∈ o, q.Sound p) : (e.giveBack o).Sound p := by
  cases o with
  | none => exact sound
  | some q =>
    obtain ⟨least, -, -⟩ := sound
    obtain ⟨-, -, fits⟩ := pending q rfl
    exact ⟨Nat.le_min.mpr ⟨by decide, by omega⟩, satAdd_byte_le _ _, fits⟩

/-- A put of what keeps the law keeps it in the whole list. -/
theorem keyedPut_sound {p : Pair} {f : Option Entry → Entry} {l : List (Pair × Entry)}
    (sound : ∀ x ∈ l, x.2.Sound x.1) (put : ∀ o : Option Entry, (∀ e ∈ o, e.Sound p) → (f o).Sound p) :
    ∀ x ∈ keyedPut p f l, x.2.Sound x.1 := by
  intro x mem
  rcases mem_keyedPut mem with old | rfl | ⟨e, held, rfl⟩
  · exact sound x old
  · exact put none nofun
  · exact put (some e) (by rintro _ ⟨⟩; exact sound _ held)

/-! ### What keeps the law of the notice set -/

theorem Notices.record_sound {nt : Notices} {clock : Stamp} {p : Pair} {d : Detail} (sound : nt.Sound)
    (fits : d.fits p = true) : (nt.record clock p d).Sound := by
  obtain ⟨pending, outstanding, most, window, numbers, entries, sent⟩ := sound
  exact ⟨keyedWf_put _ _ _ pending, outstanding, most, window, numbers,
    keyedPut_sound entries fun o held => Entry.fold_sound fits held, sent⟩

theorem Notices.control_sound {nt : Notices} (a : NoticeSetting) (sound : nt.Sound) : (nt.control a).Sound := sound

theorem Notices.ack_sound {nt : Notices} {window : Option Nat} {numbers : List Byte} (sound : nt.Sound)
    (range : ∀ w ∈ window, w ≤ 8) : (nt.ack window numbers).Sound := by
  obtain ⟨pending, outstanding, most, least, distinct, entries, sent⟩ := sound
  have part : (removeNumbers nt.outstanding numbers).Sublist nt.outstanding := List.filter_sublist
  refine ⟨pending, keyedWf_filter _ outstanding, Nat.le_trans part.length_le most, ?_, distinct.sublist (part.map _), entries,
    fun x mem => sent x (part.subset mem)⟩
  cases window with
  | none => exact least
  | some w => exact range w rfl

theorem returnAll_sound {out : List (Pair × Numbered)} {pending : List (Pair × Entry)}
    (entries : ∀ x ∈ pending, x.2.Sound x.1) (sent : ∀ x ∈ out, x.2.entry.Sound x.1) :
    ∀ x ∈ returnAll pending out, x.2.Sound x.1 := by
  induction out generalizing pending with
  | nil => exact entries
  | cons y out ih =>
    obtain ⟨front, rest⟩ := List.forall_mem_cons.mp sent
    exact ih (keyedPut_sound entries fun _ held => Entry.giveBack_sound front held) rest

theorem Notices.resync_sound {nt : Notices} (sound : nt.Sound) : nt.resync.Sound := by
  obtain ⟨pending, -, -, window, -, entries, sent⟩ := sound
  exact ⟨keyedWf_returnAll _ pending, rfl, Nat.zero_le _, window, List.nodup_nil, returnAll_sound entries sent,
    List.forall_mem_nil _⟩

/-! ### The number of a notice (R135) -/

theorem Notices.holds_iff (nt : Notices) (number : Byte) :
    nt.holds number = true ↔ ∃ x ∈ nt.outstanding, x.2.number = number := by
  simp [Notices.holds]

/-- The search stops at the first number not held, or where its bound ends it. -/
theorem Notices.freeNumber_spec (nt : Notices) (fuel : Nat) (n : Byte) :
    ∃ k ≤ fuel, nt.freeNumber fuel n = n + BitVec.ofNat 8 k ∧ (∀ j < k, nt.holds (n + BitVec.ofNat 8 j) = true) ∧
      (k < fuel → nt.holds (n + BitVec.ofNat 8 k) = false) := by
  induction fuel generalizing n with
  | zero => exact ⟨0, Nat.le_refl _, by simp [Notices.freeNumber], nofun, nofun⟩
  | succ fuel ih =>
    unfold Notices.freeNumber
    split
    · next held =>
      obtain ⟨k, le, eq, all, stop⟩ := ih (n + 1)
      have shift : ∀ j, n + 1 + BitVec.ofNat 8 j = n + BitVec.ofNat 8 (j + 1) := fun j => by
        rw [BitVec.add_assoc, Nat.add_comm j 1, BitVec.ofNat_add]; rfl
      simp only [shift] at eq all stop
      refine ⟨k + 1, Nat.succ_le_succ le, eq, fun j lt => ?_, fun lt => stop (Nat.lt_of_succ_lt_succ lt)⟩
      cases j with
      | zero => simpa using held
      | succ j => exact all j (Nat.lt_of_succ_lt_succ lt)
    · next free => exact ⟨0, Nat.zero_le _, by simp, nofun, fun _ => by simpa using free⟩

/-- Numbers held one after the other are as many entries. -/
theorem Notices.le_outstanding_of_held {nt : Notices} {n : Byte} {k : Nat} (few : k ≤ 256)
    (held : ∀ j < k, nt.holds (n + BitVec.ofNat 8 j) = true) : k ≤ nt.outstanding.length := by
  have distinct : ((List.range k).map fun j => n + BitVec.ofNat 8 j).Nodup := by
    refine List.pairwise_map.mpr (List.nodup_range.imp_of_mem fun {i j} hi hj other same => other ?_)
    have := List.mem_range.mp hi
    have := List.mem_range.mp hj
    have := congrArg BitVec.toNat (BitVec.add_right_inj n |>.mp same)
    simp only [BitVec.toNat_ofNat] at this
    omega
  have among : ((List.range k).map fun j => n + BitVec.ofNat 8 j) ⊆ nt.outstanding.map fun x => x.2.number := by
    intro b mem
    obtain ⟨j, hj, rfl⟩ := List.mem_map.mp mem
    obtain ⟨x, hx, number⟩ := (nt.holds_iff _).mp (held j (List.mem_range.mp hj))
    exact List.mem_map.mpr ⟨x, hx, number⟩
  simpa using distinct.length_le_of_subset among

theorem Notices.number_number (nt : Notices) (e : Entry) :
    (nt.number e).number = nt.freeNumber 256 nt.nextNumber := by
  unfold Notices.number; rfl

/-- R135: with fewer than 8 entries outstanding, the number of the next notice is the first that none of them holds. -/
theorem Notices.number_spec {nt : Notices} (room : nt.outstanding.length < 8) (e : Entry) :
    ∃ k < 8, (nt.number e).number = nt.nextNumber + BitVec.ofNat 8 k ∧
      (∀ j < k, nt.holds (nt.nextNumber + BitVec.ofNat 8 j) = true) ∧
      nt.holds (nt.nextNumber + BitVec.ofNat 8 k) = false := by
  obtain ⟨k, most, number, held, free⟩ := nt.freeNumber_spec 256 nt.nextNumber
  have few := Notices.le_outstanding_of_held most held
  rw [← nt.number_number e] at number
  exact ⟨k, by omega, number, held, free (by omega)⟩

/-! ### Delivery (R132 to R135) -/

theorem Notices.toDeliver_eq_some {nt : Notices} {p : Pair} {e : Entry} (deliver : nt.toDeliver = some (p, e)) :
    nt.gate = true ∧ nt.outstanding.length < nt.window ∧ (p, e) ∈ nt.pending ∧ keyedGet p nt.outstanding = none := by
  unfold Notices.toDeliver at deliver
  split at deliver
  · next may =>
    have eligible := List.find?_some deliver
    simp only [Bool.and_eq_true, decide_eq_true_eq] at may
    exact ⟨may.1, may.2, List.mem_of_find?_eq_some deliver, by simpa using eligible⟩
  · cases deliver

theorem Notices.send_sound {nt : Notices} {p : Pair} {e : Entry} (sound : nt.Sound)
    (deliver : nt.toDeliver = some (p, e)) : (nt.send p e).Sound := by
  obtain ⟨-, room, held, none⟩ := Notices.toDeliver_eq_some deliver
  obtain ⟨pending, outstanding, most, window, numbers, entries, sent⟩ := sound
  have perm := keyedPut_perm_of_absent (fun _ => nt.number e) (forall_ne_of_keyedGet_eq_none none)
  obtain ⟨k, -, number, -, free⟩ := Notices.number_spec (nt := nt) (by omega) e
  have fresh : (nt.number e).number ∉ nt.outstanding.map fun x => x.2.number := fun mem => by
    obtain ⟨x, hx, same⟩ := List.mem_map.mp mem
    rw [← number] at free
    exact absurd ((nt.holds_iff _).mpr ⟨x, hx, same⟩) (by simp [free])
  refine ⟨keyedWf_filter _ pending, keyedWf_put _ _ _ outstanding, ?_, window, ?_,
    fun x mem => entries x (List.mem_filter.mp mem).1, fun x mem => ?_⟩
  · have := perm.length_eq
    simp only [List.length_cons] at this
    simp only [Notices.send]; omega
  · have sentNumbers := perm.map fun x => x.2.number
    rw [List.map_cons] at sentNumbers
    exact sentNumbers.nodup_iff.mpr (List.nodup_cons.mpr ⟨fresh, numbers⟩)
  · rcases List.mem_cons.mp (perm.subset mem) with rfl | old
    · exact entries _ held
    · exact sent x old

end Sys2Proof.Machine
end

section
/-! PROOFS. What a command is made of: the parts that each change one block of the state, and the walk over the
commands that finds them, once for all the laws that every step keeps. -/

namespace Sys2Proof.Machine

-- The declarations are elaborated in turn: one thread does for the whole file.
set_option Elab.async false

/-! ### The parts of a command -/

/-- What a change of one slot record leaves, where neither the selector nor a request on the slot table makes it: its
configuration, a DISABLED life, and whether it is ON_BUS. -/
structure Slot.Change (x y : Slot) : Prop where
  cfg : y.cfg = x.cfg
  life : x.life = .disabled → y.life = .disabled
  onBus : y.tx = .onBus ↔ x.tx = .onBus

/-- R57: the commands that bring the outcome of the part's own frame. -/
def bringsOutcome (c : Instr) : Prop := c = .txSent ∨ c = .txLost ∨ ∃ k a, c = .txFaulted k a

/-- The commands that write the bus engine; the two resets are not among them. -/
def movesEngine : Instr → Bool
  | .setTiming | .setMode | .goOnline | .goOffline | .frameEnd _ | .selection | .txSent | .txLost | .txFaulted _ _
  | .rxFault _ _ | .stopComplete | .syncComplete | .recoveryInterval | .busStuck | .partClockAdvance
  | .startBitRead => true
  | _ => false

/-- The frames that a command can bring to acceptance: the one it carries, and the part's own where that is looped. -/
def mayEnd (c : Instr) (s : State) (f : BusFrame) : Prop :=
  (c = .frameEnd f ∧ f.wf = true) ∨ ∃ rec ∈ s.txBuffer, rec.frame = f

/-- R56: slot `n` is ON_BUS, and its frame in the transmit buffer. -/
def State.offer (s : State) (n : SlotNo) : State :=
  (s.setSlot n { s.slot n with tx := .onBus }).setTxBuffer (some { slot := n, frame := (s.slot n).snapshot })

/-- R58: the slot is settled and the transmit buffer emptied. -/
def State.settleSlot (s : State) (rec : TxRecord) (o : Outcome) : State :=
  (s.setSlot rec.slot ((s.slot rec.slot).outcome o (frameKind rec.frame) s.clock).endFrame).setTxBuffer none

/-- One part of what command `c` does, where the frames of `F` can reach acceptance. Each part says what the laws ask of
it; the host link is written around the parts. -/
inductive State.Part (c : Instr) (F : BusFrame → Prop) : State → State → Prop
  | slot {s} (n : SlotNo) {y : Slot} (change : (s.slot n).Change y)
      (sound : (∀ f, F f → f.wf = true) → (s.slot n).Sound → y.Sound) : Part c F s (s.setSlot n y)
  | configure {s} (n : SlotNo) {cfg : SlotConfig} (command : c = .configSlot) (life : (s.slot n).life = .disabled)
      (range : cfg.InRange) : Part c F s (s.setSlot n (Slot.configured cfg.stored))
  | enable {s} (n : SlotNo) (life : (s.slot n).life = .disabled) (role : (s.slot n).cfg.role ≠ .none)
      (apart : s.tagConflict n = false) : Part c F s (s.setSlot n (s.slot n).enable)
  | notify {s} (n : SlotNo) (notify : Bool) (command : c = .noticeControl) (role : (s.slot n).cfg.role ≠ .none) :
      Part c F s (s.setSlot n ((s.slot n).setNotify notify))
  | offer {s} (n : SlotNo) (command : c = .selection) (empty : s.txBuffer = none) (candidate : (s.slot n).candidate = true) :
      Part c F s (s.offer n)
  | settle {s} (rec : TxRecord) (o : Outcome) (command : bringsOutcome c) (buffer : s.txBuffer = some rec) :
      Part c F s (s.settleSlot rec o)
  | raise {s} (p : Pair) (d : Detail) (fits : d.fits p = true) : Part c F s (s.raise p d)
  | notices {s} {nt : Notices} (command : movesEngine c = false) (keeps : s.notices.Sound → nt.Sound) :
      Part c F s (s.setNotices nt)
  | catchQ {s} {q : CatchQueue} (keeps : (∀ f, F f → f.wf = true) → s.catchQ.Sound → q.Sound) :
      Part c F s (s.setCatch q)
  | engine {s} (e : Engine) (command : movesEngine c = true) : Part c F s (s.setEngine e)
  | diag {s} (d : DiagCounters) : Part c F s (s.setDiag d)
  | masks {s} (a b : Tag) : Part c F s (s.setMasks a b)
  | free {s} (n : Nat) : Part c F s (s.setFreeCount n)
  | clock {s} (k : Stamp) (command : c = .partClockAdvance) : Part c F s (s.setClock k)
  | tick {s} (command : c = .partClockAdvance) : Part c F s (s.setSlots (mapSlots Slot.tick s.slots))

/-- Parts one after the other. -/
inductive State.Parts (c : Instr) (F : BusFrame → Prop) (s : State) : State → Prop
  | refl : State.Parts c F s s
  | tail {t u : State} (parts : State.Parts c F s t) (part : State.Part c F t u) : State.Parts c F s u

section
variable {c : Instr} {F : BusFrame → Prop}

theorem State.Parts.single {s t : State} (part : State.Part c F s t) : State.Parts c F s t := .tail .refl part

theorem State.Parts.trans {s t u : State} (first : State.Parts c F s t) (second : State.Parts c F t u) :
    State.Parts c F s u := by
  induction second with
  | refl => exact first
  | tail _ part ih => exact ih.tail part

open State.Parts (single)

/-- No part reaches the host link. -/
theorem State.Parts.link_eq {s t : State} (parts : State.Parts c F s t) : t.link = s.link := by
  induction parts with
  | refl => rfl
  | tail _ part ih =>
    rw [← ih]
    cases part with
    | raise p d fits => exact State.raise_link ..
    | _ => rfl

/-! ### The bus -/

theorem State.engineEvent_parts (s : State) (e : Engine) (command : movesEngine c = true) :
    State.Parts c F s (s.engineEvent e) := by
  rcases s.engineEvent_cases e with h | h <;> rw [h]
  · exact single (.engine e command)
  · exact (single (.engine e command)).tail (.raise _ _ rfl)

theorem Slot.want_change {x : Slot} (r : Reason) (life : x.life = .enabled) : x.Change (x.want r) := by
  unfold Slot.want
  split
  · next tx => exact ⟨rfl, by simp [life], by simp [tx]⟩
  · next tx => exact ⟨rfl, by simp [life], by simp⟩
  · next tx => cases r <;> exact ⟨rfl, by simp [life], Iff.rfl⟩

theorem Slot.Change.trans {x y z : Slot} (first : x.Change y) (second : y.Change z) : x.Change z :=
  ⟨second.cfg.trans first.cfg, second.life ∘ first.life, second.onBus.trans first.onBus⟩

theorem Slot.answered_change {x : Slot} (life : x.life = .enabled) : x.Change x.answered := by
  unfold Slot.answered
  split
  · next asked =>
    simp only [Bool.and_eq_true, decide_eq_true_eq] at asked
    refine ⟨rfl, by simp [life], ?_⟩
    dsimp only
    split <;> simp [asked.2]
  · exact ⟨rfl, id, Iff.rfl⟩

theorem Slot.store_change {x : Slot} (clock : Stamp) (payload : List Byte) (life : x.life = .enabled) :
    x.Change (x.store clock payload) := by
  unfold Slot.store
  refine Slot.Change.trans ?_ (Slot.answered_change ?_)
  · exact ⟨rfl, id, Iff.rfl⟩
  · exact life

/-- The claimer of a PUBLISH frame is an ENABLED subscribe slot. -/
theorem State.storeSlot_spec {s : State} {tag : Tag} {n : SlotNo} (claims : s.storeSlot tag = some n) :
    (s.slot n).cfg.role = .subscribe ∧ (s.slot n).life = .enabled := by
  have := List.find?_some claims
  simp at this
  exact ⟨this.1.1, this.1.2⟩

/-- The claimer of a QUERY frame is an ENABLED publish slot. -/
theorem State.answerSlot_spec {s : State} {tag : Tag} {n : SlotNo} (claims : s.answerSlot tag = some n) :
    (s.slot n).cfg.role = .publish ∧ (s.slot n).life = .enabled := by
  have := List.find?_some claims
  simp at this
  exact ⟨this.1.1, this.1.2⟩

theorem State.claimPublish_parts {s : State} {n : SlotNo} {tag : Tag} {payload : List Byte}
    (claims : s.storeSlot tag = some n) (brought : F ⟨tag, .publish payload⟩) :
    State.Parts c F s (s.claimPublish n tag payload) := by
  obtain ⟨role, life⟩ := State.storeSlot_spec claims
  unfold State.claimPublish State.store
  split
  · next accepts =>
    refine (single (.slot n (Slot.store_change _ _ life) fun wf sound => ?_)).tail (.raise _ _ rfl)
    exact Slot.store_sound sound life role accepts (of_decide_eq_true (wf _ brought))
  · exact single (.slot n ⟨rfl, id, Iff.rfl⟩ fun _ sound => Slot.lengthReject_sound sound role)

theorem State.claimQuery_parts {s : State} {n : SlotNo} {tag : Tag} (claims : s.answerSlot tag = some n) :
    State.Parts c F s (s.claimQuery n tag) := by
  obtain ⟨role, life⟩ := State.answerSlot_spec claims
  unfold State.claimQuery
  split
  · exact single (.slot n (Slot.want_change _ life) fun _ sound => Slot.want_sound sound life (by rw [role]; rfl))
  · exact single (.raise _ _ rfl)

theorem CatchQueue.append_sound {q : CatchQueue} {f : BusFrame} {clock : Stamp} (sound : q.Sound)
    (room : q.queue.length < Config.catchDepth) (wf : f.wf = true) :
    CatchQueue.Sound { q with queue := q.queue ++ [⟨f, clock⟩] } := by
  obtain ⟨-, overflow, frames⟩ := sound
  have room : q.queue.length < 8 := room
  refine ⟨by simp; omega, overflow, fun r hr => ?_⟩
  rcases List.mem_append.mp hr with old | new
  · exact frames r old
  · rw [List.mem_singleton.mp new]; exact wf

theorem State.unclaimed_parts {s : State} {f : BusFrame} (brought : F f) : State.Parts c F s (s.unclaimed f) := by
  unfold State.unclaimed State.catchFrame State.catchAppend State.catchDrop State.countUnclaimed
  split
  · split
    · next room =>
      exact (single (.catchQ fun wf sound => CatchQueue.append_sound sound room (wf f brought))).tail (.raise _ _ rfl)
    · refine (single (.catchQ fun _ sound => ?_)).tail (.raise _ _ rfl)
      exact ⟨sound.1, Nat.min_le_left _ _, sound.2.2⟩
  · exact single (.diag _)

/-- R27: the parts of a frame's fate. -/
theorem State.accept_parts {s : State} {f : BusFrame} (sender : Option SlotNo) (brought : F f) :
    State.Parts c F s (s.accept f sender) := by
  unfold State.accept
  split
  · next payload body =>
    split
    · exact (single (.diag _)).tail (.raise _ _ rfl)
    · split
      · next n claims => exact State.claimPublish_parts claims (body ▸ brought)
      · exact State.unclaimed_parts brought
  · split
    · next n claims => exact State.claimQuery_parts claims
    · exact State.unclaimed_parts brought

/-- R58: the events of an outcome, before its slot is settled. -/
def State.outcomeEvents (s : State) (rec : TxRecord) (o : Outcome) : State :=
  let kind := frameKind rec.frame
  let after := (s.slot rec.slot).outcome o kind s.clock
  (s.raiseOutcome rec.slot o kind (s.slot rec.slot) after).raiseMarks rec.slot o kind after

/-- A property that every event of slot `n` keeps, the events of an outcome keep. -/
theorem State.outcomeEvents_induct {P : State → Prop} {s : State} (rec : TxRecord) (o : Outcome)
    (event : ∀ (t : State) (k : SlotKind) (d : Detail), d.fits (.slot rec.slot k) = true → P t →
      P (t.raise (.slot rec.slot k) d)) (start : P s) : P (s.outcomeEvents rec o) := by
  have outcome : ∀ kind before after, P (s.raiseOutcome rec.slot o kind before after) := fun kind before after => by
    cases o with
    | sent => exact event _ _ _ rfl start
    | exhausted => exact event _ _ _ rfl start
    | lost => exact start
    | faulted => exact start
  have aborted : ∀ (t : State) kind after, P t → P (t.raiseAborted rec.slot o kind after) := fun t kind after ht => by
    cases o with
    | lost => exact event _ _ _ rfl ht
    | faulted => exact event _ _ _ rfl ht
    | sent => exact ht
    | exhausted => exact ht
  simp only [State.outcomeEvents, State.raiseMarks]
  split
  · exact event _ _ _ rfl (aborted _ _ _ (outcome _ _ _))
  · split
    · exact aborted _ _ _ (outcome _ _ _)
    · exact outcome _ _ _

/-- The events of an outcome reach the notice set alone. -/
theorem State.outcomeEvents_eq (s : State) (rec : TxRecord) (o : Outcome) :
    ∃ nt, s.outcomeEvents rec o = s.setNotices nt := by
  refine State.outcomeEvents_induct (P := fun t => ∃ nt, t = s.setNotices nt) rec o ?_ ⟨s.notices, rfl⟩
  rintro t k d - ⟨nt, rfl⟩
  exact ⟨_, State.raise_eq _ _ d⟩

/-- R58: an outcome taken is its events, and then the slot settled. -/
theorem State.settle_eq (s : State) (rec : TxRecord) (o : Outcome) :
    s.settle rec o = (s.outcomeEvents rec o).settleSlot rec o := by
  obtain ⟨nt, h⟩ := s.outcomeEvents_eq rec o
  rw [h]
  unfold State.outcomeEvents at h
  simp only [State.settle, h]
  rfl

theorem State.settle_parts {s : State} {rec : TxRecord} (o : Outcome) (command : bringsOutcome c)
    (buffer : s.txBuffer = some rec) : State.Parts c F s (s.settle rec o) := by
  have events : State.Parts c F s (s.outcomeEvents rec o) :=
    State.outcomeEvents_induct rec o (fun t k d fits before => before.tail (.raise _ _ fits)) .refl
  have kept : (s.outcomeEvents rec o).txBuffer = some rec := by
    obtain ⟨nt, h⟩ := s.outcomeEvents_eq rec o
    rw [h]; exact buffer
  rw [s.settle_eq]
  exact events.tail (.settle rec o command kept)

/-! ### The bus commands -/

/-- R55: what the selector keeps as the best so far is a candidate. -/
theorem State.better_candidate {s : State} {best : Option SlotNo} {n : SlotNo}
    (before : ∀ m ∈ best, (s.slot m).candidate = true) : ∀ m ∈ s.better best n, (s.slot m).candidate = true := by
  unfold State.better
  split
  · next candidate =>
    cases best with
    | none => rintro m ⟨⟩; exact candidate
    | some b =>
      dsimp only
      split
      · rintro m ⟨⟩; exact candidate
      · rintro m ⟨⟩; exact before b rfl
  · exact before

theorem State.bestCandidate_candidate {s : State} {n : SlotNo} (best : s.bestCandidate = some n) :
    (s.slot n).candidate = true := by
  have all : ∀ (slots : List SlotNo) (best : Option SlotNo), (∀ m ∈ best, (s.slot m).candidate = true) →
      ∀ m ∈ slots.foldl s.better best, (s.slot m).candidate = true := by
    intro slots
    induction slots with
    | nil => exact fun best before => before
    | cons n slots ih => exact fun best before => ih _ (State.better_candidate before)
  exact all allSlots none nofun n best

theorem State.frameEnd_parts {s : State} {f : BusFrame} (command : movesEngine c = true) (brought : F f) :
    State.Parts c F s (s.frameEnd f) := by
  unfold State.frameEnd
  split
  · exact ((single (.diag _)).trans (State.accept_parts none brought)).trans (State.engineEvent_parts _ _ command)
  · exact .refl

theorem State.selection_parts {s : State} (command : c = .selection) : State.Parts c F s s.selection := by
  unfold State.selection
  split
  · next stands =>
    have empty : s.txBuffer = none := by simp [State.opportunity] at stands; exact stands.2
    split
    · next n best =>
      have offered : State.Parts c F s (s.offer n) :=
        single (.offer n command empty (State.bestCandidate_candidate best))
      exact offered.tail (.engine _ (by rw [command]; rfl))
    · exact .refl
  · exact .refl

theorem State.txSent_parts {s : State} (command : c = .txSent) (brought : ∀ rec ∈ s.txBuffer, F rec.frame) :
    State.Parts c F s s.txSent := by
  have moves : movesEngine c = true := by rw [command]; rfl
  unfold State.txSent
  split
  · next rec buffer =>
    split
    · have account : State.Parts c F s (s.settle rec .sent).sentAccount :=
        (State.settle_parts .sent (.inl command) buffer).trans
          ((single (.diag _)).trans (State.engineEvent_parts _ _ moves))
      refine account.trans ?_
      unfold State.loopBack
      split
      · exact (single (.diag _)).trans (State.accept_parts _ (brought rec buffer))
      · exact .refl
    · exact .refl
  · exact .refl

theorem State.txLost_parts {s : State} (command : c = .txLost) : State.Parts c F s s.txLost := by
  unfold State.txLost
  split
  · next rec buffer =>
    split
    · exact ((State.settle_parts .lost (.inr (.inl command)) buffer).tail (.diag _)).tail
        (.engine _ (by rw [command]; rfl))
    · exact .refl
  · exact .refl

theorem State.faultAccount_parts {s : State} {kind : FaultKind} {tag : Option Tag} (command : movesEngine c = true) :
    State.Parts c F s (s.faultAccount kind tag) :=
  ((single (.diag _)).tail (.raise _ _ rfl)).trans (State.engineEvent_parts _ _ command)

theorem State.txFaulted_parts {s : State} {kind : FaultKind} {afterTag : Bool} (command : c = .txFaulted kind afterTag) :
    State.Parts c F s (s.txFaulted kind afterTag) := by
  unfold State.txFaulted
  split
  · next rec buffer =>
    split
    · exact (State.settle_parts _ (.inr (.inr ⟨kind, afterTag, command⟩)) buffer).trans
        (State.faultAccount_parts (by rw [command]; rfl))
    · exact .refl
  · exact .refl

theorem State.rxFault_parts {s : State} {kind : FaultKind} {tag : Option Tag} (command : movesEngine c = true) :
    State.Parts c F s (s.rxFault kind tag) := by
  unfold State.rxFault
  split
  · exact ((single (.diag _)).tail (.raise _ _ rfl)).trans (State.engineEvent_parts _ _ command)
  · exact .refl

theorem State.startBit_parts {s : State} (command : movesEngine c = true) : State.Parts c F s s.startBit := by
  unfold State.startBit
  split
  · exact single (.engine _ command)
  · exact .refl

theorem State.stopComplete_parts {s : State} (command : movesEngine c = true) : State.Parts c F s s.stopComplete := by
  unfold State.stopComplete
  split
  · exact State.engineEvent_parts _ _ command
  · exact .refl

theorem State.syncComplete_parts {s : State} (command : movesEngine c = true) : State.Parts c F s s.syncComplete := by
  unfold State.syncComplete
  split
  · exact State.engineEvent_parts _ _ command
  · exact .refl

theorem State.recoveryInterval_parts {s : State} (command : movesEngine c = true) :
    State.Parts c F s s.recoveryInterval := by
  unfold State.recoveryInterval
  split
  · exact State.engineEvent_parts _ _ command
  · exact .refl

theorem State.busStuck_parts {s : State} (command : movesEngine c = true) : State.Parts c F s s.busStuck := by
  unfold State.busStuck
  split
  · exact State.engineEvent_parts _ _ command
  · exact .refl

/-! ### The part clock -/

theorem Slot.periodExpired_change {x : Slot} (life : x.life = .enabled) : x.Change x.periodExpired := by
  have reloaded : x.Change { x with timer := .start x.cfg.interval } := ⟨rfl, id, Iff.rfl⟩
  have wanted := reloaded.trans (Slot.want_change .send (by exact life))
  have skips : x.Change { x with timer := .start x.cfg.interval, skipped := satAdd Config.byteMax x.skipped 1 } :=
    ⟨rfl, id, Iff.rfl⟩
  simp only [Slot.periodExpired]
  split
  · exact wanted
  · split
    · exact skips
    · exact wanted
  · split
    · exact skips
    · exact wanted

theorem State.periodExpiry_parts (s : State) (n : SlotNo) : State.Parts c F s (s.periodExpiry n) := by
  unfold State.periodExpiry
  split
  · next due =>
    obtain ⟨-, life, -⟩ := (s.slot n).periodDue_iff.mp due
    exact single (.slot n (Slot.periodExpired_change life) fun _ sound => Slot.periodExpired_sound sound due)
  · exact .refl

theorem State.deadlineExpiry_parts (s : State) (n : SlotNo) : State.Parts c F s (s.deadlineExpiry n) := by
  unfold State.deadlineExpiry
  split
  · next due =>
    exact (single (.slot n (y := (s.slot n).deadlineExpired) ⟨rfl, id, Iff.rfl⟩ fun _ sound =>
      Slot.deadlineExpired_sound sound due)).tail (.raise _ _ rfl)
  · exact .refl

theorem State.takeExpiries_parts (slots : List SlotNo) (s : State) :
    State.Parts c F s (slots.foldl State.takeExpiry s) := by
  induction slots generalizing s with
  | nil => exact .refl
  | cons n slots ih => exact ((s.periodExpiry_parts n).trans (State.deadlineExpiry_parts _ n)).trans (ih _)

theorem State.takePassedBurst_parts {s : State} (command : movesEngine c = true) :
    State.Parts c F s s.takePassedBurst := by
  unfold State.takePassedBurst
  split
  · split
    · exact State.stopComplete_parts command
    · exact single (.engine _ command)
  · exact .refl

/-- R14: an advance of the part clock, with what it finds overdue taken first; the framer's part of it is the link's. -/
theorem State.partClockAdvance_parts {s : State} (command : c = .partClockAdvance) :
    ∃ u, State.Parts c F s u ∧ s.takeOverdue.tick =
      u.setLink { s.link.takeOverdueGap with framer := s.link.takeOverdueGap.framer.tick } := by
  have moves : movesEngine c = true := by rw [command]; rfl
  have overdue : State.Parts c F s (allSlots.foldl State.takeExpiry s).busStuck.takePassedBurst :=
    (State.takeExpiries_parts allSlots s).trans
      ((State.busStuck_parts moves).trans (State.takePassedBurst_parts moves))
  unfold State.takeOverdue
  generalize (allSlots.foldl State.takeExpiry s).busStuck.takePassedBurst = t at overdue
  rw [← overdue.link_eq]
  exact ⟨_, ((overdue.tail (.clock _ command)).tail (.tick command)).tail (.engine _ moves), rfl⟩

end

end Sys2Proof.Machine
end

section
/-! PROOFS. The parts of the host's requests, and of every command. -/

namespace Sys2Proof.Machine

-- The declarations are elaborated in turn: one thread does for the whole file.
set_option Elab.async false

open State.Parts (single)

/-! ### What a body that is taken says of its fields (R147) -/

/-- A field that is read lets the rest of the body be read. -/
theorem field_bind_eq_ok {α β : Type} {i : Nat} {o : Option α} {k : α → Except Reply β} {b : β} :
    (field i o >>= k) = .ok b ↔ ∃ a, o = some a ∧ k a = .ok b := by
  cases o with
  | none => exact ⟨nofun, nofun⟩
  | some a => exact ⟨fun h => ⟨a, rfl, h⟩, by rintro ⟨_, ⟨⟩, h⟩; exact h⟩

theorem lengthOf_range {role : Role} {b : Byte} {l : CfgLength} (read : lengthOf role b = some l) :
    l.inRange = true ∧ (role = .publish → l ≠ .any) := by
  unfold lengthOf at read
  split at read
  · split at read
    · cases read
    · next other => cases read; exact ⟨rfl, fun role => absurd role other⟩
  · split at read
    · next fits => cases read; exact ⟨decide_eq_true fits, nofun⟩
    · cases read

theorem retryOf_range {b : Byte} {l : RetryLimit} (read : retryOf b = some l) : l.inRange = true := by
  unfold retryOf at read
  split at read
  · cases read; rfl
  · split at read
    · next fits => cases read; exact decide_eq_true fits
    · cases read

theorem intervalOf_range {a b : Byte} {n : Nat} (read : intervalOf a b = some n) : n ≤ 60000 := by
  unfold intervalOf at read
  split at read
  · next fits => cases read; exact fits
  · cases read

theorem parseConfig_range {body : List Byte} {a : SlotNo × SlotConfig} (parsed : parseConfig body = .ok a) :
    a.2.InRange := by
  unfold parseConfig at parsed
  split at parsed
  · simp only [field_bind_eq_ok] at parsed
    obtain ⟨slot, -, role, -, mtch, -, length, hl, interval, hi, retry, hr, answer, -, notify, -, made⟩ := parsed
    cases made
    obtain ⟨range, publish⟩ := lengthOf_range hl
    exact ⟨range, publish, intervalOf_range hi, retryOf_range hr⟩
  · cases parsed

theorem parseWrite_range {body : List Byte} {a : SlotNo × Bool × List Byte} (parsed : parseWrite body = .ok a) :
    a.2.2.length ≤ 16 := by
  unfold parseWrite at parsed
  split at parsed
  · split at parsed
    · next whole =>
      simp only [field_bind_eq_ok] at parsed
      obtain ⟨slot, -, send, -, data, hd, made⟩ := parsed
      cases made
      split at hd
      · next fits => cases hd; exact Nat.le_trans (Nat.le_of_eq whole) fits
      · cases hd
    · cases parsed
  · cases parsed

theorem parseAck_range {body : List Byte} {a : Option Nat × List Byte} (parsed : parseAck body = .ok a) :
    ∀ w ∈ a.1, w ≤ 8 := by
  unfold parseAck at parsed
  split at parsed
  · split at parsed
    · simp only [field_bind_eq_ok] at parsed
      obtain ⟨window, hw, made⟩ := parsed
      cases made
      unfold windowOf at hw
      split at hw
      · cases hw; nofun
      · split at hw
        · next fits => cases hw; rintro w ⟨⟩; exact fits
        · cases hw
    · cases parsed
  · cases parsed

section
variable {c : Instr} {F : BusFrame → Prop}

/-! ### The requests on the engine -/

theorem doSetTiming_parts (command : movesEngine c = true) (a : Rate × SamplePoint) (s : State) :
    State.Parts c F s (doSetTiming a s).1 := by
  unfold doSetTiming
  split
  · exact single (.engine _ command)
  · exact .refl

theorem doSetMode_parts (command : movesEngine c = true) (m : Mode) (s : State) :
    State.Parts c F s (doSetMode m s).1 := by
  unfold doSetMode
  split
  · exact single (.engine _ command)
  · exact .refl

theorem doGoOnline_parts (command : movesEngine c = true) (u : Unit) (s : State) :
    State.Parts c F s (doGoOnline u s).1 := by
  unfold doGoOnline
  split
  · exact State.engineEvent_parts _ _ command
  · exact State.engineEvent_parts _ _ command
  all_goals exact .refl

theorem State.useFree_parts (s : State) : State.Parts c F s s.useFree := by
  unfold State.useFree
  split
  · exact single (.free _)
  · exact .refl

theorem doGoOffline_parts (command : movesEngine c = true) (u : Unit) (s : State) :
    State.Parts c F s (doGoOffline u s).1 := by
  unfold doGoOffline
  split
  · split
    · exact s.useFree_parts.trans (State.engineEvent_parts _ _ command)
    · exact s.useFree_parts.trans (State.engineEvent_parts _ _ command)
  · exact State.engineEvent_parts _ _ command
  · exact State.engineEvent_parts _ _ command
  · exact State.engineEvent_parts _ _ command
  all_goals exact .refl

/-! ### The requests on the slot table -/

theorem doConfigSlot_parts (command : c = .configSlot) {a : SlotNo × SlotConfig} (range : a.2.InRange) (s : State) :
    State.Parts c F s (doConfigSlot a s).1 := by
  unfold doConfigSlot
  split
  · exact .refl
  · exact .refl
  · next life => exact single (.configure a.1 command life range)

theorem doEnableSlot_parts (n : SlotNo) (s : State) : State.Parts c F s (doEnableSlot n s).1 := by
  unfold doEnableSlot
  split
  · exact .refl
  · next role =>
    split
    · exact .refl
    · next apart =>
      split
      · exact .refl
      · exact .refl
      · next life => exact single (.enable n life role (by simpa using apart))

theorem doDisableSlot_parts (n : SlotNo) (s : State) : State.Parts c F s (doDisableSlot n s).1 := by
  unfold doDisableSlot
  split
  · exact .refl
  · exact .refl
  · next life =>
    split
    · next onBus =>
      exact single (.slot n ⟨rfl, by simp [life], Iff.rfl⟩ fun _ sound => Slot.drain_sound sound life onBus)
    · next onBus => exact single (.slot n ⟨rfl, fun _ => rfl, by simp [Slot.disable, onBus]⟩ fun _ => Slot.disable_sound)

theorem Slot.write_change {x : Slot} {send : Bool} (payload : List Byte) (life : send = true → x.life = .enabled) :
    x.Change (x.write send payload) := by
  cases send with
  | false => exact ⟨rfl, id, Iff.rfl⟩
  | true =>
    have written : x.Change { x with payload := payload } := ⟨rfl, id, Iff.rfl⟩
    exact written.trans (Slot.want_change .send (by exact life rfl))

theorem doWriteSlot_parts {a : SlotNo × Bool × List Byte} (fits : a.2.2.length ≤ 16) (s : State) :
    State.Parts c F s (doWriteSlot a s).1 := by
  simp only [doWriteSlot]
  split
  · exact .refl
  · next role =>
    split
    · exact .refl
    · next length =>
      split
      · exact .refl
      · next notDraining =>
        split
        · exact .refl
        · next sendable =>
          have life : a.2.1 = true → (s.slot a.1).life = .enabled := fun send => by
            cases h : (s.slot a.1).life <;> simp_all
          exact single (.slot a.1 (Slot.write_change _ life) fun _ sound =>
            Slot.write_sound sound (Classical.not_not.mp role) (Classical.not_not.mp length) fits life)

theorem doReadSlot_parts (a : SlotNo × Bool) (s : State) : State.Parts c F s (doReadSlot a s).1 := by
  simp only [doReadSlot]
  split
  · refine single (.slot a.1 ?_ fun _ => Slot.consume_sound)
    unfold Slot.consume
    split <;> exact ⟨rfl, id, Iff.rfl⟩
  · exact .refl

theorem askReason_parts {role : Role} {reason : Reason} (wants : role.wants reason = true) (n : SlotNo) (s : State) :
    State.Parts c F s (askReason role reason n s).1 := by
  simp only [askReason]
  split
  · exact .refl
  · exact .refl
  · next life =>
    split
    · exact .refl
    · next same =>
      have asked : State.Parts c F s (s.setSlot n ((s.slot n).want reason)) :=
        single (.slot n (Slot.want_change _ life) fun _ sound =>
          Slot.want_sound sound life (by rw [Classical.not_not.mp same]; exact wants))
      split
      · exact asked
      · exact asked
      · split <;> exact asked

theorem doAbortSlot_parts (n : SlotNo) (s : State) : State.Parts c F s (doAbortSlot n s).1 := by
  simp only [doAbortSlot]
  split
  · next life tx =>
    exact single (.slot n ⟨rfl, id, by simp [Slot.giveUp, tx]⟩ fun _ sound => Slot.giveUp_sound sound life)
  · next life tx =>
    split
    · exact .refl
    · exact single (.slot n ⟨rfl, id, Iff.rfl⟩ fun _ sound => Slot.abortMarked_sound sound tx)
  all_goals exact .refl

/-! ### The requests on the catch queue and the notice unit -/

theorem doSetCatch_parts (a : CatchSetting) (s : State) : State.Parts c F s (doSetCatch a s).1 := by
  refine single (.catchQ fun _ ⟨most, overflow, frames⟩ => ?_)
  unfold CatchQueue.set
  cases a.flush with
  | false => exact ⟨most, overflow, frames⟩
  | true => exact ⟨Nat.zero_le _, Nat.zero_le _, List.forall_mem_nil _⟩

theorem doTakeCatch_parts (peek : Bool) (s : State) : State.Parts c F s (doTakeCatch peek s).1 := by
  unfold doTakeCatch
  split
  · exact .refl
  · next r rest queue =>
    split
    · exact .refl
    · refine single (.catchQ fun _ ⟨most, overflow, frames⟩ => ?_)
      rw [queue] at most frames
      exact ⟨Nat.le_of_succ_le most, overflow, (List.forall_mem_cons.mp frames).2⟩

theorem doNoticeControl_parts (command : c = .noticeControl) (a : NoticeSetting) (s : State) :
    State.Parts c F s (doNoticeControl a s).1 := by
  simp only [doNoticeControl]
  split
  · exact single (.notices (by rw [command]; rfl) (Notices.control_sound a))
  · next n _ =>
    split
    · exact .refl
    · next role =>
      have controlled : State.Parts c F s (s.setNotices (s.notices.control a)) :=
        single (.notices (by rw [command]; rfl) (Notices.control_sound a))
      exact controlled.tail (.notify n a.notify command role)

/-! ### A request, and every command -/

/-- What a command that takes a request can come to: nothing, or the request leaves the inbox, has its effect, and is
answered. The effect leaves the link alone, but for the counters that DIAG_COUNTS clears. -/
def State.RequestRun (c : Instr) (F : BusFrame → Prop) (s t : State) : Prop :=
  t = s ∨ ∃ (r : Request) (rep : Reply) (after : Processor) (u : State) (k : LinkCounters), s.link.next = some r ∧
    State.Parts c F s.dropRequest u ∧ (k = u.link.counters ∨ k = .zero) ∧
    (after = .replyWaiting ∨ after = .restartReplyWaiting) ∧
    t = (u.setLink { u.link with counters := k }).finish r rep after

theorem State.requestRun {α : Type} (s : State) (code : Byte) (parse : List Byte → Except Reply α)
    (run : α → State → State × Reply) {after : Processor}
    (processor : after = .replyWaiting ∨ after = .restartReplyWaiting)
    (effect : ∀ body a t, parse body = .ok a →
      ∃ u k, State.Parts c F t u ∧ (k = u.link.counters ∨ k = .zero) ∧
        (run a t).1 = u.setLink { u.link with counters := k }) :
    State.RequestRun c F s (s.request code parse run after) := by
  rcases s.request_cases code parse run after with h | ⟨r, ⟨free, head⟩, -, ⟨rep, -, h⟩ | ⟨a, parsed, h⟩⟩
  · exact .inl h
  · exact .inr ⟨r, rep, .replyWaiting, s.dropRequest, _, by simp [Link.next, free, head], .refl, .inl rfl, .inl rfl, h⟩
  · obtain ⟨u, k, parts, counters, state⟩ := effect r.body a s.dropRequest parsed
    exact .inr ⟨r, _, after, u, k, by simp [Link.next, free, head], parts, counters, processor, by rw [h, state]⟩

/-- The same, where the effect is made of parts alone. -/
theorem State.requestRun_of_parts {α : Type} (s : State) (code : Byte) (parse : List Byte → Except Reply α)
    (run : α → State → State × Reply) (effect : ∀ body a t, parse body = .ok a → State.Parts c F t (run a t).1) :
    State.RequestRun c F s (s.request code parse run) :=
  s.requestRun code parse run (.inl rfl) fun body a t parsed => ⟨_, _, effect body a t parsed, .inl rfl, rfl⟩

theorem exec_requestRun {s t : State} {code : Byte} (request : requestCode c = some code)
    (run : exec c s = .next t) : State.RequestRun c F s t := by
  cases c with
  | identify => cases run; exact s.requestRun_of_parts _ _ _ fun _ _ _ _ => .refl
  | restart => cases run; exact s.requestRun _ _ _ (.inr rfl) fun _ _ t _ => ⟨t, _, .refl, .inl rfl, rfl⟩
  | setTiming => cases run; exact s.requestRun_of_parts _ _ _ fun _ a t _ => doSetTiming_parts rfl a t
  | setMode => cases run; exact s.requestRun_of_parts _ _ _ fun _ a t _ => doSetMode_parts rfl a t
  | goOnline => cases run; exact s.requestRun_of_parts _ _ _ fun _ a t _ => doGoOnline_parts rfl a t
  | goOffline => cases run; exact s.requestRun_of_parts _ _ _ fun _ a t _ => doGoOffline_parts rfl a t
  | engineStatus => cases run; exact s.requestRun_of_parts _ _ _ fun _ _ _ _ => .refl
  | diagCounts =>
    cases run
    refine s.requestRun _ _ _ (.inl rfl) fun _ clear t _ => ?_
    cases clear with
    | false => exact ⟨t, _, .refl, .inl rfl, rfl⟩
    | true => exact ⟨t.setDiag .zero, .zero, single (.diag _), .inr rfl, rfl⟩
  | setMasks => cases run; exact s.requestRun_of_parts _ _ _ fun _ a t _ => single (.masks a.1 a.2)
  | configSlot =>
    cases run; exact s.requestRun_of_parts _ _ _ fun _ a t parsed => doConfigSlot_parts rfl (parseConfig_range parsed) t
  | enableSlot => cases run; exact s.requestRun_of_parts _ _ _ fun _ n t _ => doEnableSlot_parts n t
  | disableSlot => cases run; exact s.requestRun_of_parts _ _ _ fun _ n t _ => doDisableSlot_parts n t
  | writeSlot =>
    cases run; exact s.requestRun_of_parts _ _ _ fun _ a t parsed => doWriteSlot_parts (parseWrite_range parsed) t
  | readSlot => cases run; exact s.requestRun_of_parts _ _ _ fun _ a t _ => doReadSlot_parts a t
  | sendSlot => cases run; exact s.requestRun_of_parts _ _ _ fun _ n t _ => askReason_parts rfl n t
  | querySlot => cases run; exact s.requestRun_of_parts _ _ _ fun _ n t _ => askReason_parts rfl n t
  | abortSlot => cases run; exact s.requestRun_of_parts _ _ _ fun _ n t _ => doAbortSlot_parts n t
  | setCatch => cases run; exact s.requestRun_of_parts _ _ _ fun _ a t _ => doSetCatch_parts a t
  | takeCatch => cases run; exact s.requestRun_of_parts _ _ _ fun _ peek t _ => doTakeCatch_parts peek t
  | noticeControl => cases run; exact s.requestRun_of_parts _ _ _ fun _ a t _ => doNoticeControl_parts rfl a t
  | ackNotices =>
    cases run
    exact s.requestRun_of_parts _ _ _ fun _ a t parsed =>
      single (.notices rfl fun sound => Notices.ack_sound sound (parseAck_range parsed))
  | resyncNotices =>
    cases run; exact s.requestRun_of_parts _ _ _ fun _ _ t _ => single (.notices rfl Notices.resync_sound)
  | _ => cases request

theorem State.refuseUnknown_run (s : State) : State.RequestRun c F s s.refuseUnknown := by
  unfold State.refuseUnknown
  split
  · next r taken =>
    split
    · exact .inl rfl
    · exact .inr ⟨r, _, .replyWaiting, s.dropRequest, _, taken, .refl, .inl rfl, .inl rfl, rfl⟩
  · exact .inl rfl

/-- What a command other than a reset comes to: its parts, with the host link written before and after them. -/
def State.Run (c : Instr) (F : BusFrame → Prop) (s t : State) : Prop :=
  ∃ (l l' : Link) (u : State), State.Parts c F (s.setLink l) u ∧ t = u.setLink l'

theorem State.Run.of_parts {s t : State} (parts : State.Parts c F s t) : State.Run c F s t :=
  ⟨s.link, t.link, t, parts, rfl⟩

theorem State.Run.of_link (s : State) (l : Link) : State.Run c F s (s.setLink l) := ⟨s.link, l, s, .refl, rfl⟩

theorem State.RequestRun.run {s t : State} (h : State.RequestRun c F s t) : State.Run c F s t := by
  rcases h with rfl | ⟨r, rep, after, u, k, -, parts, -, -, rfl⟩
  · exact .of_parts .refl
  · exact ⟨_, _, u, parts, rfl⟩

theorem State.deliver_run (command : movesEngine c = false) (s : State) : State.Run c F s s.deliver := by
  unfold State.deliver
  split
  · split
    · next p e delivered =>
      exact ⟨_, _, _, single (.notices command fun sound => Notices.send_sound sound delivered), rfl⟩
    · exact .of_parts .refl
  · exact .of_parts .refl

/-- The commands of the bus and of the slots' timers. -/
def isBusEvent : Instr → Bool
  | .frameEnd _ | .selection | .txSent | .txLost | .txFaulted _ _ | .rxFault _ _ | .stopComplete | .syncComplete => true
  | .recoveryInterval | .busStuck | .periodExpiry _ | .deadlineExpiry _ | .startBitRead => true
  | _ => false

/-- Such a command does not reach the host link. -/
theorem exec_parts {s t : State} (bus : isBusEvent c = true) (run : exec c s = .next t) :
    State.Parts c (mayEnd c s) s t := by
  cases c with
  | frameEnd f =>
    simp only [exec, execFrameEnd] at run
    split at run <;> cases run
    next wf => exact State.frameEnd_parts rfl (.inl ⟨rfl, wf⟩)
  | selection => cases run; exact State.selection_parts rfl
  | txSent => cases run; exact State.txSent_parts rfl fun rec buffer => .inr ⟨rec, buffer, rfl⟩
  | txLost => cases run; exact State.txLost_parts rfl
  | txFaulted kind afterTag =>
    simp only [exec, execTxFaulted] at run
    split at run <;> cases run
    exact State.txFaulted_parts rfl
  | rxFault kind tag =>
    simp only [exec, execRxFault] at run
    split at run <;> cases run
    exact State.rxFault_parts rfl
  | stopComplete => cases run; exact State.stopComplete_parts rfl
  | syncComplete => cases run; exact State.syncComplete_parts rfl
  | recoveryInterval => cases run; exact State.recoveryInterval_parts rfl
  | busStuck => cases run; exact State.busStuck_parts rfl
  | periodExpiry n => cases run; exact s.periodExpiry_parts n
  | deadlineExpiry n => cases run; exact s.deadlineExpiry_parts n
  | startBitRead => cases run; exact State.startBit_parts rfl
  | _ => cases bus

/-- Every command but the two resets is made of parts. -/
theorem exec_run {s t : State} (noPowerUp : ∀ a b, c ≠ .powerUp a b) (noRestart : c ≠ .restartTakeEffect)
    (run : exec c s = .next t) : State.Run c (mayEnd c s) s t := by
  cases request : requestCode c with
  | some code => exact (exec_requestRun request run).run
  | none =>
    by_cases bus : isBusEvent c = true
    · exact .of_parts (exec_parts bus run)
    cases c with
    | powerUp a b => exact absurd rfl (noPowerUp a b)
    | restartTakeEffect => exact absurd rfl noRestart
    | requestUnknownKind => cases run; exact s.refuseUnknown_run.run
    | hostFrameReceived bytes => cases run; exact .of_link _ _
    | lengthFault bytes => cases run; exact .of_link _ _
    | gapTimeout bytes => cases run; exact .of_link _ _
    | helloBegin => cases run; exact .of_link _ _
    | replyBegin => cases run; exact .of_link _ _
    | rejectBegin => cases run; exact .of_link _ _
    | noticeDelivery => cases run; exact s.deliver_run rfl
    | partClockAdvance =>
      rw [exec_partClockAdvance] at run
      obtain ⟨u, parts, state⟩ := State.partClockAdvance_parts (F := mayEnd .partClockAdvance s) rfl
      exact ⟨s.link, _, u, parts, (Host.Outcome.next.inj run).symm.trans state⟩
    | _ => simp [requestCode, isBusEvent] at request bus

end

end Sys2Proof.Machine
end

section
/-! PROOFS. The laws that every step keeps: the slot table, the tags, the notice set, the catch queue; and what only
some commands may touch: the part clock, a configuration, the transmit buffer. -/

namespace Sys2Proof.Machine

-- The declarations are elaborated in turn: one thread does for the whole file.
set_option Elab.async false

/-! ### From the parts of a command to a step -/

theorem step_of_empty {s : State} (empty : s.pending = []) : step s = .next s := by
  unfold step; rw [empty]

theorem step_of_command {c : Instr} {rest : List Instr} {s : State} (queue : s.pending = c :: rest) :
    step s = exec c (s.setPending rest) := by
  unfold step; rw [queue]

/-- A property of the reset state that every command made of parts keeps, every step keeps. -/
theorem step_preserves {P : State → Prop} (pending : ∀ s q, P s → P (s.setPending q))
    (reset : ∀ clock baud cause free queue, P (State.afterReset clock baud cause free queue))
    (command : ∀ c s t, (∀ a b, c ≠ .powerUp a b) → c ≠ .restartTakeEffect → exec c s = .next t → P s → P t)
    {s t : State} (before : P s)
    (run : step s = .next t) : P t := by
  match queue : s.pending with
  | [] =>
    rw [step_of_empty queue] at run
    cases run
    exact before
  | c :: rest =>
    rw [step_of_command queue] at run
    by_cases powerUp : ∃ a b, c = .powerUp a b
    · obtain ⟨a, b, rfl⟩ := powerUp
      cases run
      exact reset _ _ _ _ _
    · by_cases restart : c = .restartTakeEffect
      · subst restart
        cases run
        unfold State.restart
        split
        · exact reset _ _ _ _ _
        · exact pending s rest before
      · exact command c _ t (fun a b h => powerUp ⟨a, b, h⟩) restart run (pending s rest before)

/-- What the parts of every command keep, every step keeps. -/
theorem step_keeps {P : State → Prop} (pending : ∀ s q, P s → P (s.setPending q))
    (reset : ∀ clock baud cause free queue, P (State.afterReset clock baud cause free queue))
    (command : ∀ c s t, State.Run c (mayEnd c s) s t → P s → P t) {s t : State} (before : P s)
    (run : step s = .next t) : P t :=
  step_preserves pending reset
    (fun c s t noPowerUp noRestart run => command c s t (exec_run noPowerUp noRestart run)) before run

section
variable {c : Instr} {F : BusFrame → Prop}

/-- What each part keeps and the link does not reach, a command made of parts keeps. -/
theorem State.Run.keeps {P : State → Prop} {s t : State} (run : State.Run c F s t)
    (link : ∀ s l, P s → P (s.setLink l)) (part : ∀ s t, State.Part c F s t → P s → P t) (before : P s) : P t := by
  obtain ⟨l, l', u, parts, rfl⟩ := run
  refine link u l' ?_
  induction parts with
  | refl => exact link s l before
  | tail _ step ih => exact part _ _ step ih

/-! ### What the end of a frame leaves of its slot (R65 to R69) -/

theorem Slot.outcome_cfg (x : Slot) (o : Outcome) (kind : FrameKind) (clock : Stamp) :
    (x.outcome o kind clock).cfg = x.cfg := by
  cases o with
  | sent => cases kind <;> rfl
  | lost => rfl
  | faulted => simp only [Slot.outcome, Slot.faultedOutcome]; split <;> rfl
  | exhausted => simp only [Slot.outcome, Slot.faultedOutcome]; split <;> rfl

theorem Slot.outcome_life (x : Slot) (o : Outcome) (kind : FrameKind) (clock : Stamp) :
    (x.outcome o kind clock).life = x.life := by
  cases o with
  | sent => cases kind <;> rfl
  | lost => rfl
  | faulted => simp only [Slot.outcome, Slot.faultedOutcome]; split <;> rfl
  | exhausted => simp only [Slot.outcome, Slot.faultedOutcome]; split <;> rfl

/-- A frame that has ended is off the bus, and its slot's configuration stays; DRAINING alone changes the life. -/
theorem Slot.endFrame_spec (x : Slot) :
    x.endFrame.tx ≠ .onBus ∧ x.endFrame.cfg = x.cfg ∧ (x.life = .disabled → x.endFrame.life = .disabled) := by
  unfold Slot.endFrame
  split
  · exact ⟨nofun, rfl, fun _ => rfl⟩
  · split
    · exact ⟨nofun, rfl, id⟩
    · split
      · exact ⟨nofun, rfl, id⟩
      · refine ⟨?_, rfl, id⟩
        dsimp only
        split <;> simp

/-! ### The slot table (R6 to R13, R56) -/

/-- A slot's record replaced by a sound one that is ON_BUS where it was, and then sends what it sent. -/
theorem State.SlotsSound.setSlot {s : State} (sound : s.SlotsSound) {n : SlotNo} {y : Slot} (ySound : y.Sound)
    (onBus : y.tx = .onBus ↔ (s.slot n).tx = .onBus)
    (same : y.tx = .onBus → y.cfg.tag = (s.slot n).cfg.tag ∧ y.cfg.role = (s.slot n).cfg.role) :
    (s.setSlot n y).SlotsSound := by
  obtain ⟨slots, empty, held⟩ := sound
  have tx : ∀ m, ((s.setSlot n y).slot m).tx = .onBus ↔ (s.slot m).tx = .onBus := fun m => by
    rw [s.setSlot_slot]; split
    · next h => rw [h]; exact onBus
    · exact Iff.rfl
  refine ⟨fun m => ?_, fun none m => mt (tx m).mp (empty none m), fun rec buffer => ?_⟩
  · rw [s.setSlot_slot]; split
    · exact ySound
    · exact slots m
  · obtain ⟨one, tag, kind, wf⟩ := held rec buffer
    refine ⟨fun m => (tx m).trans (one m), ?_, ?_, wf⟩
    all_goals
      rw [s.setSlot_slot]
      split
      · next h =>
        obtain ⟨sameTag, sameRole⟩ := same (onBus.mpr ((one n).mpr h.symm))
        subst h
        simp only [tag, kind, sameTag, Slot.sends, sameRole]
      · assumption

theorem Slot.frameKind_snapshot (x : Slot) : frameKind x.snapshot = x.sends := by
  unfold Slot.snapshot Slot.sends frameKind
  by_cases publish : x.cfg.role = .publish <;> simp [publish]

theorem State.SlotsSound.offer {s : State} (sound : s.SlotsSound) {n : SlotNo} (empty : s.txBuffer = none)
    (candidate : (s.slot n).candidate = true) : (s.offer n).SlotsSound := by
  obtain ⟨slots, idle, -⟩ := sound
  have slot : ∀ m, (s.offer n).slot m = if m = n then { s.slot n with tx := .onBus } else s.slot m := fun m => by
    simp only [State.offer, State.setTxBuffer_slot, s.setSlot_slot]
  refine ⟨fun m => ?_, nofun, ?_⟩
  · rw [slot]; split
    · exact Slot.onBus_sound (slots n) candidate
    · exact slots m
  · rintro rec ⟨⟩
    refine ⟨fun m => ?_, ?_, ?_, ?_⟩
    · rw [slot]; split
      · next h => exact ⟨fun _ => h, fun _ => rfl⟩
      · next h => exact ⟨fun on => absurd on (idle empty m), fun on => absurd on h⟩
    · rw [slot, if_pos rfl]; rfl
    · rw [slot, if_pos rfl]
      exact Slot.frameKind_snapshot _
    · obtain ⟨fits, -⟩ := (slots n).2.2.2.1
      simp only [Slot.snapshot, BusFrame.wf]
      split
      · next payload body =>
        split at body <;> cases body
        exact decide_eq_true fits
      · rfl

theorem State.SlotsSound.settleSlot {s : State} (sound : s.SlotsSound) {rec : TxRecord} (o : Outcome)
    (buffer : s.txBuffer = some rec) : (s.settleSlot rec o).SlotsSound := by
  obtain ⟨slots, -, held⟩ := sound
  obtain ⟨one, -, kind, -⟩ := held rec buffer
  have settled := Slot.outcome_endFrame_sound (o := o) (clock := s.clock) (slots rec.slot) ((one _).mpr rfl) kind
  refine ⟨fun m => ?_, fun _ m => ?_, nofun⟩
  all_goals simp only [State.settleSlot, State.setTxBuffer_slot, s.setSlot_slot]; split
  · exact settled
  · exact slots m
  · exact (Slot.endFrame_spec _).1
  · next other => exact mt (one m).mp other

theorem State.SlotsSound.tick {s : State} (sound : s.SlotsSound) :
    (s.setSlots (mapSlots Slot.tick s.slots)).SlotsSound := by
  obtain ⟨slots, empty, held⟩ := sound
  have slot : ∀ m, (s.setSlots (mapSlots Slot.tick s.slots)).slot m = (s.slot m).tick := fun m => mapSlots_get _ _ m
  refine ⟨fun m => slot m ▸ Slot.tick_sound (slots m), fun none m => slot m ▸ empty none m, fun rec buffer => ?_⟩
  obtain ⟨one, tag, kind, wf⟩ := held rec buffer
  exact ⟨fun m => slot m ▸ one m, slot _ ▸ tag, slot _ ▸ kind, wf⟩

theorem State.Part.slotsSound {s t : State} (part : State.Part c F s t) (wf : ∀ f, F f → f.wf = true)
    (sound : s.SlotsSound) : t.SlotsSound := by
  have idle : ∀ n, (s.slot n).life = .disabled → (s.slot n).tx = .idle := fun n off => by
    obtain ⟨-, -, ⟨-, disabled, -⟩, -⟩ := sound.1 n
    exact (disabled off).1
  cases part with
  | slot n change keeps =>
    exact sound.setSlot (keeps wf (sound.1 n)) change.onBus fun _ => by rw [change.cfg]; exact ⟨rfl, rfl⟩
  | configure n command life range =>
    exact sound.setSlot (Slot.configured_sound range.stored_sound) (by simp [idle n life, Slot.configured, Slot.reset])
      nofun
  | enable n life role apart =>
    exact sound.setSlot (Slot.enable_sound (sound.1 n) life role) (by simp [idle n life, Slot.enable]) nofun
  | notify n notify command role =>
    exact sound.setSlot (Slot.setNotify_sound (sound.1 n) role) Iff.rfl fun _ => ⟨rfl, rfl⟩
  | offer n command empty candidate => exact sound.offer empty candidate
  | settle rec o command buffer => exact sound.settleSlot o buffer
  | raise p d fits => simpa only [State.SlotsSound, State.BufferSound, State.raise_slot, State.raise_txBuffer] using sound
  | tick command => exact sound.tick
  | notices command keeps => exact sound
  | catchQ keeps => exact sound
  | engine e command => exact sound
  | diag d => exact sound
  | masks a b => exact sound
  | free n => exact sound
  | clock k command => exact sound

/-- R25: with a sound transmit buffer, every frame that reaches acceptance is one that the bus can carry. -/
theorem mayEnd_wf {s : State} (sound : s.SlotsSound) {f : BusFrame} (brought : mayEnd c s f) : f.wf = true := by
  rcases brought with ⟨-, wf⟩ | ⟨rec, buffer, rfl⟩
  · exact wf
  · obtain ⟨-, -, held⟩ := sound
    obtain ⟨-, -, -, wf⟩ := held rec buffer
    exact wf

theorem State.afterReset_slotsSound (clock : Stamp) (baud : Baud) (cause : HelloCause) (free : Nat)
    (queue : List Instr) : (State.afterReset clock baud cause free queue).SlotsSound := by
  have slot : ∀ n, (State.afterReset clock baud cause free queue).slot n = Slot.reset := fun n => by
    simp [State.slot_eq, State.afterReset]
  refine ⟨fun n => ?_, fun _ n => ?_, nofun⟩
  · rw [slot]
    exact ⟨by decide, by decide, by decide, by decide, by decide, by decide⟩
  · rw [slot]; nofun

theorem State.Run.slotsSound {s t : State} (run : State.Run c (mayEnd c s) s t) (sound : s.SlotsSound) :
    t.SlotsSound :=
  run.keeps (P := State.SlotsSound) (fun _ _ => id) (fun _ _ part => part.slotsSound fun _ => mayEnd_wf sound) sound

/-- Settles O5: each part of a command keeps the slot table's law. -/
theorem stepKeepsTheSlotTableSound : Obligations.StepKeepsTheSlotTableSound := fun _ _ =>
  step_keeps (fun _ _ => id) State.afterReset_slotsSound fun _ _ _ => State.Run.slotsSound

/-! ### The tags of publish slots (R16) -/

theorem Slot.publishing_iff (x : Slot) : x.publishing = true ↔ x.cfg.role = .publish ∧ x.life ≠ .disabled := by
  cases h : x.life <;> simp [Slot.publishing, h]

/-- No slot begins to publish, and none changes its tag: the tags stay apart. -/
theorem State.TagsUnique.of_slots {s t : State} (unique : s.TagsUnique)
    (slots : ∀ n, (t.slot n).publishing = true → (s.slot n).publishing = true ∧ (t.slot n).cfg.tag = (s.slot n).cfg.tag) :
    t.TagsUnique := by
  intro m n hm hn same
  obtain ⟨pm, tm⟩ := slots m hm
  obtain ⟨pn, tn⟩ := slots n hn
  exact unique m n pm pn (by rw [← tm, ← tn, same])

/-- The same for a write of one slot. -/
theorem State.TagsUnique.setSlot {s : State} (unique : s.TagsUnique) {n : SlotNo} {y : Slot}
    (kept : y.publishing = true → (s.slot n).publishing = true ∧ y.cfg.tag = (s.slot n).cfg.tag) :
    (s.setSlot n y).TagsUnique := by
  refine unique.of_slots fun m => ?_
  rw [s.setSlot_slot]
  split
  · next h => subst h; exact kept
  · exact fun h => ⟨h, rfl⟩

theorem Slot.publishing_of_kept {x y : Slot} (cfg : y.cfg = x.cfg) (life : x.life = .disabled → y.life = .disabled)
    (publishing : y.publishing = true) : x.publishing = true ∧ y.cfg.tag = x.cfg.tag := by
  rw [Slot.publishing_iff] at publishing ⊢
  rw [cfg] at publishing ⊢
  exact ⟨⟨publishing.1, mt life publishing.2⟩, rfl⟩

/-- R16: a slot is enabled only where no other publishing slot has its tag. -/
theorem State.TagsUnique.enable {s : State} (unique : s.TagsUnique) {n : SlotNo} (apart : s.tagConflict n = false) :
    (s.setSlot n (s.slot n).enable).TagsUnique := by
  have others : ∀ m, m ≠ n → (s.slot m).publishing = true → (s.slot n).cfg.role = .publish →
      (s.slot m).cfg.tag ≠ (s.slot n).cfg.tag := fun m other publishing role same => by
    have := apart
    simp only [State.tagConflict, role, decide_true, Bool.true_and, List.any_eq_false] at this
    exact this m (mem_allSlots m) (by simp [other, publishing, same])
  have role : (s.slot n).enable.publishing = true → (s.slot n).cfg.role = .publish := fun h =>
    ((Slot.publishing_iff _).mp h).1
  intro m k
  rw [s.setSlot_slot, s.setSlot_slot]
  split
  · next hm =>
    split
    · next hk => exact fun _ _ _ => hm.trans hk.symm
    · next hk => exact fun pm pk same => absurd same.symm (others k hk pk (role pm))
  · next hm =>
    split
    · next hk => exact fun pm pk same => absurd same (others m hm pm (role pk))
    · exact unique m k

theorem State.Part.tagsUnique {s t : State} (part : State.Part c F s t) (unique : s.TagsUnique) : t.TagsUnique := by
  cases part with
  | slot n change => exact unique.setSlot (Slot.publishing_of_kept change.cfg change.life)
  | configure n command life range => exact unique.setSlot fun h => absurd rfl ((Slot.publishing_iff _).mp h).2
  | enable n life role apart => exact unique.enable apart
  | notify n notify command role => exact unique.setSlot fun h => ⟨h, rfl⟩
  | offer n command empty candidate => exact State.TagsUnique.setSlot (n := n) unique fun h => ⟨h, rfl⟩
  | settle rec o command buffer =>
    obtain ⟨-, cfg, life⟩ := Slot.endFrame_spec ((s.slot rec.slot).outcome o (frameKind rec.frame) s.clock)
    rw [Slot.outcome_cfg] at cfg
    rw [Slot.outcome_life] at life
    exact State.TagsUnique.setSlot (n := rec.slot) unique (Slot.publishing_of_kept cfg life)
  | raise p d fits => simpa only [State.TagsUnique, State.raise_slot] using unique
  | tick command =>
    refine unique.of_slots fun n h => ?_
    have slot : (s.setSlots (mapSlots Slot.tick s.slots)).slot n = (s.slot n).tick := mapSlots_get _ _ n
    rw [slot] at h ⊢
    exact ⟨h, rfl⟩
  | notices command keeps => exact unique
  | catchQ keeps => exact unique
  | engine e command => exact unique
  | diag d => exact unique
  | masks a b => exact unique
  | free n => exact unique
  | clock k command => exact unique

theorem State.afterReset_tagsUnique (clock : Stamp) (baud : Baud) (cause : HelloCause) (free : Nat)
    (queue : List Instr) : (State.afterReset clock baud cause free queue).TagsUnique := by
  intro m n publishing
  simp [State.slot_eq, State.afterReset, Slot.publishing, Slot.reset, SlotConfig.neutral] at publishing

/-- Settles O6: only ENABLE_SLOT makes a slot publish, and it compares the tags. -/
theorem stepKeepsPublishTagsApart : Obligations.StepKeepsPublishTagsApart := fun _ _ =>
  step_keeps (fun _ _ => id) State.afterReset_tagsUnique fun _ _ _ run =>
    run.keeps (P := State.TagsUnique) (fun _ _ => id) fun _ _ part => part.tagsUnique

/-! ### The notice set (R129, R132, R135) -/

theorem State.raise_notices_sound {s : State} {p : Pair} {d : Detail} (fits : d.fits p = true)
    (sound : s.notices.Sound) : (s.raise p d).notices.Sound := by
  rw [State.raise_eq, State.setNotices_notices]
  split
  · exact Notices.record_sound sound fits
  · exact sound

theorem State.Part.notices_sound {s t : State} (part : State.Part c F s t) (sound : s.notices.Sound) :
    t.notices.Sound := by
  cases part with
  | raise p d fits => exact State.raise_notices_sound fits sound
  | notices command keeps => exact keeps sound
  | slot n change => exact sound
  | configure n command life range => exact sound
  | enable n life role apart => exact sound
  | notify n notify command role => exact sound
  | offer n command empty candidate => exact sound
  | settle rec o command buffer => exact sound
  | tick command => exact sound
  | catchQ keeps => exact sound
  | engine e command => exact sound
  | diag d => exact sound
  | masks a b => exact sound
  | free n => exact sound
  | clock k command => exact sound

theorem Notices.reset_sound : Notices.reset.Sound := by decide

/-- Settles O8: the events recorded and the notice unit's own requests keep the law of the notice set. -/
theorem stepKeepsTheNoticeSetSound : Obligations.StepKeepsTheNoticeSetSound := fun _ _ =>
  step_keeps (P := fun s => s.notices.Sound) (fun _ _ => id) (fun _ _ _ _ _ => Notices.reset_sound)
    fun _ _ _ run => run.keeps (P := fun s => s.notices.Sound) (fun _ _ => id) fun _ _ part => part.notices_sound

/-! ### The catch queue (R75, R76) -/

theorem State.Part.catchQ_sound {s t : State} (part : State.Part c F s t) (wf : ∀ f, F f → f.wf = true)
    (sound : s.catchQ.Sound) : t.catchQ.Sound := by
  cases part with
  | catchQ keeps => exact keeps wf sound
  | raise p d fits => rw [State.raise_catchQ]; exact sound
  | slot n change => exact sound
  | configure n command life range => exact sound
  | enable n life role apart => exact sound
  | notify n notify command role => exact sound
  | offer n command empty candidate => exact sound
  | settle rec o command buffer => exact sound
  | tick command => exact sound
  | notices command keeps => exact sound
  | engine e command => exact sound
  | diag d => exact sound
  | masks a b => exact sound
  | free n => exact sound
  | clock k command => exact sound

theorem CatchQueue.reset_sound : CatchQueue.reset.Sound := ⟨Nat.zero_le _, Nat.zero_le _, List.forall_mem_nil _⟩

/-- Settles O10: what joins the queue is a frame that acceptance was given, and the buffer's law makes a looped one of
those a frame the bus can carry. -/
theorem stepKeepsTheCatchQueueSound : Obligations.StepKeepsTheCatchQueueSound := by
  intro s t slots queue run
  have both : t.SlotsSound ∧ t.catchQ.Sound := by
    refine step_keeps (P := fun s => s.SlotsSound ∧ s.catchQ.Sound) (fun _ _ => id)
      (fun _ _ _ _ _ => ⟨State.afterReset_slotsSound _ _ _ _ _, CatchQueue.reset_sound⟩) ?_ ⟨slots, queue⟩ run
    intro c s t run ⟨slots, queue⟩
    exact ⟨run.slotsSound slots, run.keeps (P := fun s => s.catchQ.Sound) (fun _ _ => id)
      (fun _ _ part => part.catchQ_sound fun _ => mayEnd_wf slots) queue⟩
  exact both.2

/-! ### The part clock (R14) -/

theorem State.Part.clock_eq {s t : State} (part : State.Part c F s t) (noAdvance : c ≠ .partClockAdvance) :
    t.clock = s.clock := by
  cases part with
  | clock k command => exact absurd command noAdvance
  | raise p d fits => exact State.raise_clock s p d
  | slot n change => rfl
  | configure n command life range => rfl
  | enable n life role apart => rfl
  | notify n notify command role => rfl
  | offer n command empty candidate => rfl
  | settle rec o command buffer => rfl
  | tick command => rfl
  | notices command keeps => rfl
  | catchQ keeps => rfl
  | engine e command => rfl
  | diag d => rfl
  | masks a b => rfl
  | free n => rfl

@[simp] theorem State.periodExpiry_clock (s : State) (n : SlotNo) : (s.periodExpiry n).clock = s.clock := by
  unfold State.periodExpiry; split <;> rfl

@[simp] theorem State.deadlineExpiry_clock (s : State) (n : SlotNo) : (s.deadlineExpiry n).clock = s.clock := by
  unfold State.deadlineExpiry; split <;> simp

theorem State.foldl_takeExpiry_clock (slots : List SlotNo) (s : State) :
    (slots.foldl State.takeExpiry s).clock = s.clock := by
  induction slots generalizing s with
  | nil => rfl
  | cons n slots ih =>
    rw [List.foldl_cons, ih, State.takeExpiry, State.deadlineExpiry_clock, State.periodExpiry_clock]

@[simp] theorem State.busStuck_clock (s : State) : s.busStuck.clock = s.clock := by
  unfold State.busStuck; split <;> simp

@[simp] theorem State.takePassedBurst_clock (s : State) : s.takePassedBurst.clock = s.clock := by
  rcases s.takePassedBurst_cases with ⟨-, h⟩ | ⟨-, -, h⟩ | ⟨-, -, h⟩ <;> rw [h] <;> simp

theorem State.takeOverdue_clock (s : State) : s.takeOverdue.clock = s.clock := by
  rw [State.takeOverdue, State.setLink_clock, State.takePassedBurst_clock, State.busStuck_clock,
    State.foldl_takeExpiry_clock]

theorem State.tick_clock (s : State) : s.tick.clock = s.clock + 1 := rfl

/-- Settles O12: nothing overdue touches the clock before its advance, and no other command has a part that does. -/
theorem onlyTheClockAdvanceMovesTheClock : Obligations.OnlyTheClockAdvanceMovesTheClock := by
  refine ⟨fun s => ⟨_, exec_partClockAdvance s, ?_⟩, fun a b s => ⟨_, rfl, rfl⟩, fun c s t noAdvance noPowerUp run => ?_⟩
  · rw [State.tick_clock, State.takeOverdue_clock]
  · by_cases restart : c = .restartTakeEffect
    · subst restart
      cases run
      unfold State.restart
      split <;> rfl
    · exact (exec_run noPowerUp restart run).keeps (P := fun u => u.clock = s.clock) (fun _ _ => id)
        (fun _ _ part same => (part.clock_eq noAdvance).trans same) rfl

/-! ### A slot's configuration (R2, R138) -/

/-- R2, R138: a configuration is as it was, but for the notify field, which NOTICE_CONTROL may have written. -/
def SlotConfig.KeptBy (c : Instr) (before after : SlotConfig) : Prop :=
  { after with notify := before.notify } = before ∧ (c ≠ .noticeControl → after = before)

theorem SlotConfig.KeptBy.of_eq {before after : SlotConfig} (same : after = before) : before.KeptBy c after := by
  subst same; exact ⟨rfl, fun _ => rfl⟩

theorem SlotConfig.KeptBy.trans {x y z : SlotConfig} (first : x.KeptBy c y) (second : y.KeptBy c z) :
    x.KeptBy c z := by
  refine ⟨?_, fun other => (second.2 other).trans (first.2 other)⟩
  rw [← first.1, ← second.1]

theorem State.Part.cfg_kept {s t : State} (part : State.Part c F s t) (noConfig : c ≠ .configSlot) (n : SlotNo) :
    (s.slot n).cfg.KeptBy c (t.slot n).cfg := by
  have written : ∀ (m : SlotNo) (y : Slot), (s.slot m).cfg.KeptBy c y.cfg →
      (s.slot n).cfg.KeptBy c ((s.setSlot m y).slot n).cfg := fun m y kept => by
    rw [s.setSlot_slot]; split
    · next h => subst h; exact kept
    · exact .of_eq rfl
  cases part with
  | slot m change => exact written m _ (.of_eq change.cfg)
  | configure m command life range => exact absurd command noConfig
  | enable m life role apart => exact written m _ (.of_eq rfl)
  | notify m notify command role => exact written m _ ⟨rfl, fun other => absurd command other⟩
  | offer m command empty candidate => exact written m _ (.of_eq rfl)
  | settle rec o command buffer =>
    obtain ⟨-, cfg, -⟩ := Slot.endFrame_spec ((s.slot rec.slot).outcome o (frameKind rec.frame) s.clock)
    exact written rec.slot _ (.of_eq (cfg.trans (Slot.outcome_cfg ..)))
  | tick command =>
    have slot : (s.setSlots (mapSlots Slot.tick s.slots)).slot n = (s.slot n).tick := mapSlots_get _ _ n
    rw [slot]; exact .of_eq rfl
  | raise p d fits => rw [State.raise_slot]; exact .of_eq rfl
  | notices command keeps => exact .of_eq rfl
  | catchQ keeps => exact .of_eq rfl
  | engine e command => exact .of_eq rfl
  | diag d => exact .of_eq rfl
  | masks a b => exact .of_eq rfl
  | free n => exact .of_eq rfl
  | clock k command => exact .of_eq rfl

/-- CONFIG_SLOT leaves every slot that is not DISABLED as it is. -/
theorem doConfigSlot_slot_of_life {a : SlotNo × SlotConfig} {s : State} {n : SlotNo}
    (life : (s.slot n).life ≠ .disabled) : (doConfigSlot a s).1.slot n = s.slot n := by
  unfold doConfigSlot
  split
  · rfl
  · rfl
  · next off => exact s.setSlot_slot_other _ fun same => life (same ▸ off)

theorem exec_configSlot (s : State) : exec .configSlot s = .next (s.request 0x0A parseConfig doConfigSlot) := rfl

theorem State.request_configSlot_slot {s : State} {n : SlotNo} (life : (s.slot n).life ≠ .disabled) :
    (s.request 0x0A parseConfig doConfigSlot).slot n = s.slot n := by
  rcases s.request_cases 0x0A parseConfig doConfigSlot .replyWaiting with h | ⟨r, -, -, ⟨rep, -, h⟩ | ⟨a, -, h⟩⟩ <;> rw [h]
  · rfl
  · exact doConfigSlot_slot_of_life (s := s.dropRequest) life

/-- Settles O13: of the parts only CONFIG_SLOT's replaces a configuration, and it asks for a DISABLED slot. -/
theorem configurationIsWrittenOnlyWhileDisabled : Obligations.ConfigurationIsWrittenOnlyWhileDisabled := by
  intro c s t n noPowerUp noRestart run life
  change (s.slot n).cfg.KeptBy c (t.slot n).cfg
  by_cases config : c = .configSlot
  · subst config
    cases run
    rw [State.request_configSlot_slot life]
    exact .of_eq rfl
  · exact (exec_run noPowerUp noRestart run).keeps (P := fun u => (s.slot n).cfg.KeptBy c (u.slot n).cfg)
      (fun _ _ => id) (fun _ _ part kept => kept.trans (part.cfg_kept config n)) (.of_eq rfl)

/-! ### The transmit buffer (R56, R57) -/

theorem State.Part.txBuffer_kept {s t : State} {rec : TxRecord} (part : State.Part c F s t)
    (held : s.txBuffer = some rec ∨ (s.txBuffer = none ∧ bringsOutcome c)) :
    t.txBuffer = some rec ∨ (t.txBuffer = none ∧ bringsOutcome c) := by
  cases part with
  | settle r o command buffer => exact .inr ⟨rfl, command⟩
  | raise p d fits => rw [State.raise_txBuffer]; exact held
  | offer n command empty candidate =>
    rcases held with held | ⟨-, outcome⟩
    · exact absurd (held.symm.trans empty) nofun
    · subst command
      rcases outcome with h | h | ⟨_, _, h⟩ <;> cases h
  | slot n change => exact held
  | configure n command life range => exact held
  | enable n life role apart => exact held
  | notify n notify command role => exact held
  | tick command => exact held
  | notices command keeps => exact held
  | catchQ keeps => exact held
  | engine e command => exact held
  | diag d => exact held
  | masks a b => exact held
  | free n => exact held
  | clock k command => exact held

/-- Settles O14: a selection needs an empty buffer, and of the other parts only an outcome's writes it. -/
theorem onlyAnOutcomeEmptiesTheTransmitBuffer : Obligations.OnlyAnOutcomeEmptiesTheTransmitBuffer :=
  fun c _ _ rec noPowerUp noRestart buffer run =>
    (exec_run noPowerUp noRestart run).keeps
      (P := fun u => u.txBuffer = some rec ∨ (u.txBuffer = none ∧ bringsOutcome c)) (fun _ _ => id)
      (fun _ _ part => part.txBuffer_kept) (.inl buffer)

end

end Sys2Proof.Machine
end

section
/-! PROOFS. The bus engine: the law that every step keeps, and where its state can go (06_the_bus_engine.md). -/

namespace Sys2Proof.Machine

-- The declarations are elaborated in turn: one thread does for the whole file.
set_option Elab.async false

/-! ### The law of the engine, beside what the transmit buffer holds -/

/-- The engine's part of `State.EngineSound`, with a transmit buffer beside it. -/
abbrev Engine.SoundWith (e : Engine) (buffer : Option TxRecord) : Prop :=
  e.CountsSound ∧ e.WatchSound ∧ e.LineSound ∧ (e.phase = .sending ↔ buffer.isSome = true)

theorem State.engineSound_iff (s : State) : s.EngineSound ↔ s.engine.SoundWith s.txBuffer := Iff.rfl

theorem Engine.onLine_iff (e : Engine) : e.onLine = true ↔ e.state = .active ∨ e.state = .stopping := by
  simp [Engine.onLine]

theorem Engine.watching_iff (e : Engine) : e.watching = true ↔ e.state = .syncing ∨ e.state = .recovering := by
  simp [Engine.watching]

theorem Engine.inBurst_iff (e : Engine) : e.inBurst = true ↔ ∃ active ticked, e.phase = .burst active ticked := by
  unfold Engine.inBurst
  cases e.phase <;> simp

theorem Engine.receives_iff (e : Engine) :
    e.receives = true ↔ e.mode ≠ .loopback ∧
      ((e.state = .active ∧ e.phase ≠ .sending) ∨ (e.state = .stopping ∧ e.phase = .receiving)) := by
  simp [Engine.receives]

theorem Engine.transmits_iff (e : Engine) :
    e.transmits = true ↔ (e.state = .active ∨ e.state = .stopping) ∧ e.phase = .sending := by
  simp [Engine.transmits, Engine.onLine]

theorem Engine.readsStart_iff (e : Engine) :
    e.readsStart = true ↔ e.state = .active ∧ e.mode ≠ .loopback ∧ e.phase ≠ .receiving ∧ e.phase ≠ .sending := by
  simp [Engine.readsStart, and_assoc]

theorem State.opportunity_iff (s : State) :
    s.opportunity = true ↔ s.engine.state = .active ∧ s.engine.mode ≠ .listen ∧ s.engine.phase ≠ .receiving ∧
      s.engine.phase ≠ .sending ∧ s.txBuffer = none := by
  have modes : (s.engine.mode = .normal ∨ s.engine.mode = .loopback) ↔ s.engine.mode ≠ .listen := by
    cases s.engine.mode <;> simp
  simp [State.opportunity, Engine.mayOffer, modes, and_assoc]

@[simp] theorem Engine.leave_state (e : Engine) (st : EngineState) : (e.leave st).state = st := rfl
@[simp] theorem Engine.leave_phase (e : Engine) (st : EngineState) : (e.leave st).phase = .quiet := rfl
@[simp] theorem Engine.leave_recoveryOwed (e : Engine) (st : EngineState) :
    (e.leave st).recoveryOwed = e.recoveryOwed := rfl
@[simp] theorem Engine.leave_busStuck (e : Engine) (st : EngineState) : (e.leave st).busStuck = false := rfl
@[simp] theorem Engine.leave_standing (e : Engine) (st : EngineState) : (e.leave st).standing = e.standing := rfl

theorem Engine.frameEnded_of_stopping {e : Engine} (stopping : e.state = .stopping) :
    e.frameEnded
      = Engine.leave { e with rxCount := if e.mode = .normal then e.rxCount - 1 else e.rxCount } .offline := by
  unfold Engine.frameEnded; exact if_pos stopping

theorem Engine.frameEnded_of_going {e : Engine} (going : e.state ≠ .stopping) :
    e.frameEnded = { e with rxCount := if e.mode = .normal then e.rxCount - 1 else e.rxCount, phase := .gap,
                            suspensionOwed := false } := by
  unfold Engine.frameEnded; exact if_neg going

theorem Engine.sentFate_of_stopping {e : Engine} (stopping : e.state = .stopping) :
    e.sentFate
      = Engine.leave { e with txCount := if e.mode = .normal then e.txCount - 1 else e.txCount } .offline := by
  unfold Engine.sentFate; exact if_pos stopping

theorem Engine.sentFate_of_going {e : Engine} (going : e.state ≠ .stopping) :
    e.sentFate = { e with
      txCount := if e.mode = .normal then e.txCount - 1 else e.txCount, phase := .gap
      suspensionOwed :=
        Engine.standing { e with txCount := if e.mode = .normal then e.txCount - 1 else e.txCount } = .restrained } := by
  unfold Engine.sentFate; exact if_neg going

namespace Engine.SoundWith
variable {e : Engine} {b b' : Option TxRecord}

/-- R105: away from the bus no frame is in progress and no suspension owed. -/
theorem quiet (sound : e.SoundWith b) (away : e.onLine = false) :
    e.phase = .quiet ∧ e.suspensionOwed = false ∧ b = none := by
  obtain ⟨-, -, ⟨line, -⟩, sending⟩ := sound
  have idle : e.phase = .quiet := by
    refine Classical.byContradiction fun busy => ?_
    simp [line (.inl busy)] at away
  refine ⟨idle, ?_, ?_⟩
  · cases owed : e.suspensionOwed with
    | false => rfl
    | true => simp [line (.inr owed)] at away
  · rw [idle] at sending
    cases b with
    | none => rfl
    | some rec => cases sending.mpr rfl

/-- Where the part's frame is not with the engine, the transmit buffer is empty. -/
theorem empty (sound : e.SoundWith b) (idle : e.phase ≠ .sending) : b = none := by
  obtain ⟨-, -, -, sending⟩ := sound
  cases b with
  | none => rfl
  | some rec => exact absurd (sending.mpr rfl) idle

/-- R113: recovery is owed only away from the bus. -/
theorem not_owed (sound : e.SoundWith b) (state : e.state = .active ∨ e.state = .stopping ∨ e.state = .syncing) :
    e.recoveryOwed = false ∧ e.txCount < 224 := by
  obtain ⟨⟨-, -, mark, owed, -⟩, -⟩ := sound
  have unmarked : e.recoveryOwed = false := by
    cases h : e.recoveryOwed with
    | false => rfl
    | true => rcases owed h with h | h | h <;> simp [h] at state
  refine ⟨unmarked, ?_⟩
  refine Classical.byContradiction fun most => ?_
  simp [mark.mpr (Nat.not_lt.mp most)] at unmarked

/-- R116: where the watch does not run, it stands at 0 with its flag off. -/
theorem unwatched (sound : e.SoundWith b) (off : e.watching = false) : e.watchMs = 0 ∧ e.busStuck = false := by
  obtain ⟨-, ⟨-, watch⟩, -⟩ := sound
  constructor
  · refine Classical.byContradiction fun runs => ?_
    obtain ⟨on, -⟩ := watch (.inl runs)
    simp [off] at on
  · cases stuck : e.busStuck with
    | false => rfl
    | true =>
      obtain ⟨on, -⟩ := watch (.inr stuck)
      simp [off] at on

/-- R106, R113: the engine leaves for a state in which no frame can be in progress. -/
theorem left {st : EngineState} (tx : e.txCount ≤ 255) (rx : e.rxCount ≤ 255)
    (mark : e.recoveryOwed = true ↔ 224 ≤ e.txCount) (noStopping : st ≠ .stopping)
    (owed : e.recoveryOwed = true → st = .withdrawn ∨ st = .offline ∨ st = .recovering)
    (away : st = .withdrawn ∨ st = .recovering → e.recoveryOwed = true) : (e.leave st).SoundWith none := by
  refine ⟨⟨tx, rx, mark, owed, away, by simp [Engine.leave], by simp [Engine.leave]⟩, ?_, ?_, ?_⟩
  · simp [Engine.leave, Engine.WatchSound]
  · simp [Engine.leave, Engine.LineSound, Engine.inBurst, BusPhase.activeBurst, noStopping]
  · simp [Engine.leave]

theorem leave (sound : e.SoundWith b) {st : EngineState} (noStopping : st ≠ .stopping)
    (owed : e.recoveryOwed = true → st = .withdrawn ∨ st = .offline ∨ st = .recovering)
    (away : st = .withdrawn ∨ st = .recovering → e.recoveryOwed = true) : (e.leave st).SoundWith none := by
  obtain ⟨⟨tx, rx, mark, -⟩, -⟩ := sound
  exact left tx rx mark noStopping owed away

theorem rx_le (sound : e.SoundWith b) : e.rxCount ≤ 255 := by
  obtain ⟨⟨-, rx, -⟩, -⟩ := sound
  exact rx

/-- What an event on the bus leaves of an engine that stays in ACTIVE or STOPPING: its counts in range, and a phase
that its state and mode allow. -/
theorem online (sound : e.SoundWith b) (onLine : e.onLine = true) {tx rx : Nat} {record : LastFault} {owed : Bool}
    {phase : BusPhase} (txRange : tx < 224) (rxRange : rx ≤ 255)
    (stopping : e.state = .stopping → phase ≠ .quiet ∧ phase ≠ .gap ∧ phase ≠ .delimiter)
    (listen : e.mode = .listen → phase ≠ .sending ∧ owed = false)
    (loopback : e.mode = .loopback → phase ≠ .receiving ∧ phase ≠ .delimiter ∧ ∀ a k, phase ≠ .burst a k)
    (active : phase.activeBurst = true → e.mode = .normal) (buffer : phase = .sending ↔ b'.isSome = true) :
    Engine.SoundWith { e with txCount := tx, rxCount := rx, lastFault := record, suspensionOwed := owed, phase := phase }
      b' := by
  obtain ⟨unmarked, -⟩ := sound.not_owed (by rcases e.onLine_iff.mp onLine with h | h <;> simp [h])
  obtain ⟨⟨-, -, -, owes, away, progress, recovers⟩, watch, -⟩ := sound
  refine ⟨⟨by simp; omega, rxRange, ?_, owes, away, progress, recovers⟩, watch, ?_, buffer⟩
  · simp [unmarked, txRange]
  · refine ⟨fun _ => onLine, stopping, listen, fun loops => ?_, active⟩
    obtain ⟨noReceive, noDelimiter, noBurst⟩ := loopback loops
    refine ⟨noReceive, noDelimiter, ?_⟩
    rw [Bool.eq_false_iff, Ne, Engine.inBurst_iff]
    rintro ⟨a, k, h⟩
    exact noBurst a k h

/-! ### The events of the bus -/

theorem frameEnded (sound : e.SoundWith b) (receives : e.receives = true) : e.frameEnded.SoundWith b := by
  obtain ⟨mode, place⟩ := e.receives_iff.mp receives
  have onLine : e.onLine = true := e.onLine_iff.mpr (place.imp And.left And.left)
  obtain rfl := sound.empty (by rcases place with ⟨-, h⟩ | ⟨-, h⟩ <;> simp [h])
  obtain ⟨unmarked, txRange⟩ := sound.not_owed (by rcases place with ⟨h, -⟩ | ⟨h, -⟩ <;> simp [h])
  have rxRange : (if e.mode = .normal then e.rxCount - 1 else e.rxCount) ≤ 255 := by
    have := sound.rx_le
    split <;> omega
  by_cases stopping : e.state = .stopping
  · rw [Engine.frameEnded_of_stopping stopping]
    exact left (by simp; omega) rxRange (by simp [unmarked, txRange]) nofun (by simp) (by simp)
  · rw [Engine.frameEnded_of_going stopping]
    exact sound.online onLine txRange rxRange (fun h => absurd h stopping) (by simp) (fun loops => absurd loops mode)
      (by simp [BusPhase.activeBurst]) (by simp)

theorem rxFaulted (sound : e.SoundWith b) (kind : FaultKind) (tag : Option Tag) (clock : Stamp)
    (receives : e.receives = true) : (e.rxFaulted kind tag clock).SoundWith b := by
  obtain ⟨mode, place⟩ := e.receives_iff.mp receives
  obtain rfl := sound.empty (by rcases place with ⟨-, h⟩ | ⟨-, h⟩ <;> simp [h])
  obtain ⟨-, txRange⟩ := sound.not_owed (by rcases place with ⟨h, -⟩ | ⟨h, -⟩ <;> simp [h])
  have rxRange : (if e.mode = .normal then satAdd Config.byteMax e.rxCount 1 else e.rxCount) ≤ 255 := by
    obtain ⟨⟨-, rx, -⟩, -⟩ := sound
    split
    · exact satAdd_byte_le _ _
    · exact rx
  exact sound.online (e.onLine_iff.mpr (place.imp And.left And.left)) txRange rxRange (by simp) (by simp)
    (fun loops => absurd loops mode) (by simp +contextual [BusPhase.activeBurst]) (by simp)

/-- R57: a frame of the part is with the engine in NORMAL or LOOPBACK mode. -/
theorem not_listening (sound : e.SoundWith b) (sending : e.phase = .sending) : e.mode ≠ .listen := by
  obtain ⟨-, -, ⟨-, -, listen, -⟩, -⟩ := sound
  exact fun h => (listen h).1 sending

theorem sentFate (sound : e.SoundWith b) (transmits : e.transmits = true) : e.sentFate.SoundWith none := by
  obtain ⟨place, sending⟩ := e.transmits_iff.mp transmits
  obtain ⟨unmarked, txRange⟩ := sound.not_owed (by rcases place with h | h <;> simp [h])
  have txRange : (if e.mode = .normal then e.txCount - 1 else e.txCount) < 224 := by split <;> omega
  have noListen := sound.not_listening sending
  by_cases stopping : e.state = .stopping
  · rw [Engine.sentFate_of_stopping stopping]
    exact left (Nat.le_of_lt (Nat.lt_trans txRange (by decide))) sound.rx_le (by simp [unmarked, txRange]) nofun (by simp)
      (by simp)
  · rw [Engine.sentFate_of_going stopping]
    exact sound.online (e.onLine_iff.mpr place) txRange sound.rx_le (fun h => absurd h stopping)
      (fun h => absurd h noListen) (by simp) (by simp [BusPhase.activeBurst]) (by simp)

theorem judged (sound : e.SoundWith b) (kind : FaultKind) (tag : Option Tag) (clock : Stamp)
    (transmits : e.transmits = true) (normal : e.mode = .normal) :
    (e.faultCounted kind tag clock).judge.SoundWith none := by
  obtain ⟨place, -⟩ := e.transmits_iff.mp transmits
  unfold Engine.judge
  split
  · next most =>
    have withdraws : ∀ st : EngineState, st = .offline ∨ st = .withdrawn →
        Engine.SoundWith { (e.faultCounted kind tag clock).leave st with recoveryOwed := true } none := fun st away =>
      left (e := { e.faultCounted kind tag clock with recoveryOwed := true }) (satAdd_byte_le _ _) sound.rx_le
        ⟨fun _ => most, fun _ => rfl⟩ (by rcases away with rfl | rfl <;> simp) (by rcases away with rfl | rfl <;> simp)
        fun _ => rfl
    exact withdraws _ (by split <;> simp)
  · next most =>
    exact sound.online (e.onLine_iff.mpr place) (Nat.lt_of_not_le most) sound.rx_le
      (by simp [Engine.faultCounted]) (by simp [normal]) (by simp [normal]) (fun _ => normal) (by simp [Engine.faultCounted])

theorem lost (sound : e.SoundWith b) (transmits : e.transmits = true) (normal : e.mode = .normal) :
    Engine.SoundWith { e with phase := .receiving } none := by
  obtain ⟨place, sending⟩ := e.transmits_iff.mp transmits
  obtain ⟨-, txRange⟩ := sound.not_owed (by rcases place with h | h <;> simp [h])
  exact sound.online (e.onLine_iff.mpr place) txRange sound.rx_le (by simp) (by simp [normal])
    (by simp [normal]) (by simp [normal]) (by simp)

theorem started (sound : e.SoundWith b) (reads : e.readsStart = true) :
    Engine.SoundWith { e with phase := .receiving, suspensionOwed := false } b := by
  obtain ⟨state, mode, -, idle⟩ := e.readsStart_iff.mp reads
  obtain rfl := sound.empty idle
  obtain ⟨-, txRange⟩ := sound.not_owed (.inl state)
  exact sound.online (e.onLine_iff.mpr (.inl state)) txRange sound.rx_le (by simp) (by simp) (by simp [mode])
    (by simp [BusPhase.activeBurst]) (by simp)

theorem offered (sound : e.SoundWith b) (rec : TxRecord) (state : e.state = .active) (mode : e.mode ≠ .listen) :
    Engine.SoundWith { e with phase := .sending, suspensionOwed := false } (some rec) := by
  obtain ⟨-, txRange⟩ := sound.not_owed (.inl state)
  exact sound.online (e.onLine_iff.mpr (.inl state)) txRange sound.rx_le (by simp) (by simp [mode]) (by simp)
    (by simp [BusPhase.activeBurst]) (by simp)

/-- Log 21: a burst that is surely over leaves an engine that goes on in the delimiter. -/
theorem burstOver (sound : e.SoundWith b) (going : e.state ≠ .stopping) (burst : e.inBurst = true) :
    Engine.SoundWith { e with phase := .delimiter } b := by
  obtain ⟨a, k, phase⟩ := e.inBurst_iff.mp burst
  obtain rfl := sound.empty (by simp [phase])
  have onLine : e.onLine = true := by
    obtain ⟨-, -, ⟨line, -⟩, -⟩ := sound
    exact line (.inl (by simp [phase]))
  have active : e.state = .active := (e.onLine_iff.mp onLine).resolve_right going
  have mode : e.mode ≠ .loopback := fun loops => by
    obtain ⟨-, -, ⟨-, -, -, loopback, -⟩, -⟩ := sound
    simp [(loopback loops).2.2] at burst
  obtain ⟨-, txRange⟩ := sound.not_owed (.inl active)
  refine sound.online onLine txRange sound.rx_le (by simp [active]) (fun listens => ?_) (fun loops => absurd loops mode)
    (by simp [BusPhase.activeBurst]) (by simp)
  obtain ⟨-, -, ⟨-, -, listen, -⟩, -⟩ := sound
  exact ⟨nofun, (listen listens).2⟩

/-! ### The engine's own events -/

theorem watched (sound : e.SoundWith b) (due : e.stuckDue = true) : Engine.SoundWith { e with busStuck := true } b := by
  obtain ⟨counts, ⟨range, -⟩, line, sending⟩ := sound
  have runs : e.watching = true ∧ e.mode ≠ .loopback := by
    simp [Engine.stuckDue, Engine.watchCounts] at due
    exact ⟨due.1.1.1, due.1.1.2⟩
  exact ⟨counts, ⟨range, fun _ => runs⟩, line, sending⟩

theorem synced (sound : e.SoundWith b) (state : e.state = .syncing) : (e.leave .active).SoundWith b := by
  obtain ⟨-, -, rfl⟩ := sound.quiet (by simp [Engine.onLine, state])
  obtain ⟨unmarked, -⟩ := sound.not_owed (.inr (.inr state))
  exact sound.leave nofun (by simp [unmarked]) (by simp)

theorem interval (sound : e.SoundWith b) (state : e.state = .recovering) : e.interval.SoundWith b := by
  obtain ⟨phase, owes, rfl⟩ := sound.quiet (by simp [Engine.onLine, state])
  unfold Engine.interval
  split
  · exact left (e := { e with txCount := 0, rxCount := 0, recoveryOwed := false }) (Nat.zero_le _) (Nat.zero_le _)
      (by simp) nofun (by simp) (by simp)
  · next fewer =>
    obtain ⟨⟨tx, rx, mark, owed, away, -, -⟩, -, line, sending⟩ := sound
    exact ⟨⟨tx, rx, mark, owed, away, Nat.lt_of_not_le fewer, fun _ => state⟩, ⟨Nat.zero_le _, by simp⟩, line, sending⟩

theorem stopped (sound : e.SoundWith b) (idle : e.phase ≠ .sending) : (e.leave .offline).SoundWith b := by
  obtain rfl := sound.empty idle
  exact sound.leave nofun (by simp) (by simp)

theorem ticked (sound : e.SoundWith b) : e.tick.SoundWith b := by
  obtain ⟨counts, ⟨range, watch⟩, ⟨line, stopping, listen, loopback, active⟩, sending⟩ := sound
  have same : ∀ p : BusPhase, (∀ a k, p ≠ .burst a k) → (e.phase.tick = p ↔ e.phase = p) := fun p other => by
    cases e.phase with
    | burst a k => exact ⟨fun h => absurd h.symm (other a true), fun h => absurd h.symm (other a k)⟩
    | _ => exact Iff.rfl
  have burst : e.tick.inBurst = e.inBurst := by
    unfold Engine.inBurst
    rw [Engine.tick_phase]
    cases e.phase <;> rfl
  have driven : e.phase.tick.activeBurst = e.phase.activeBurst := by cases e.phase <;> rfl
  refine ⟨counts, ⟨?_, fun runs => ?_⟩, ?_, ?_⟩
  · simp only [Engine.tick]; split
    · exact Nat.min_le_left _ _
    · exact range
  · by_cases on : e.watchCounts = true
    · have runs : e.watching = true ∧ e.mode ≠ .loopback := by simpa [Engine.watchCounts] using on
      exact runs
    · exact watch (by simpa [Engine.tick, on] using runs)
  · simp only [Engine.LineSound, burst, Engine.tick_phase, Engine.tick_mode, Engine.tick_state,
      Engine.tick_suspensionOwed, driven, ne_eq, same .quiet nofun, same .gap nofun, same .delimiter nofun,
      same .sending nofun, same .receiving nofun]
    exact ⟨line, stopping, listen, loopback, active⟩
  · rw [Engine.tick_phase, same .sending nofun]; exact sending

/-! ### The host's requests on the engine -/

theorem joined (sound : e.SoundWith b) (away : e.state = .offline ∨ e.state = .withdrawn) : e.join.SoundWith b := by
  obtain ⟨-, -, rfl⟩ := sound.quiet (by rcases away with h | h <;> simp [Engine.onLine, h])
  unfold Engine.join
  split
  · next owes =>
    have owed : e.recoveryOwed = true := by
      obtain ⟨⟨-, -, -, -, mark, -⟩, -⟩ := sound
      exact owes.elim id fun h => mark (.inl h)
    exact sound.leave nofun (fun _ => by simp) fun _ => owed
  · next clear =>
    split
    · exact sound.leave nofun (fun owed => absurd (.inl owed) clear) (by simp)
    · exact sound.leave nofun (fun owed => absurd (.inl owed) clear) (by simp)

theorem stopping (sound : e.SoundWith b) (active : e.state = .active)
    (busy : e.phase ≠ .quiet ∧ e.phase ≠ .gap ∧ e.phase ≠ .delimiter) :
    Engine.SoundWith { e with state := .stopping } b := by
  obtain ⟨unmarked, -⟩ := sound.not_owed (.inl active)
  obtain ⟨idle, unstuck⟩ := sound.unwatched (by simp [Engine.watching, active])
  obtain ⟨⟨tx, rx, mark, -, -, progress, recovers⟩, ⟨range, -⟩, ⟨-, -, listen, loopback, driven⟩, sending⟩ := sound
  refine ⟨⟨tx, rx, mark, by simp [unmarked], by simp, progress, fun h => ?_⟩, ⟨range, by simp [idle, unstuck]⟩,
    ⟨fun _ => rfl, fun _ => busy, listen, loopback, driven⟩, sending⟩
  simp [recovers h] at active

/-- R121, R164: with the engine OFFLINE, its mode, rate and sample point are free. -/
theorem setting (sound : e.SoundWith b) (offline : e.state = .offline) (mode : Mode) (rate : Rate) (point : SamplePoint) :
    Engine.SoundWith { e with mode := mode, rate := rate, samplePoint := point } b := by
  obtain ⟨phase, owes, rfl⟩ := sound.quiet (by simp [Engine.onLine, offline])
  obtain ⟨idle, unstuck⟩ := sound.unwatched (by simp [Engine.watching, offline])
  obtain ⟨counts, ⟨range, -⟩, -, sending⟩ := sound
  refine ⟨counts, ⟨range, by simp [idle, unstuck]⟩, ?_, sending⟩
  simp [Engine.LineSound, Engine.inBurst, BusPhase.activeBurst, phase, owes, offline]

end Engine.SoundWith

end Sys2Proof.Machine
end

section
/-! PROOFS. Every command keeps the bus engine's law, and moves its state as the table of transitions lets it, with a
STATE event (06_the_bus_engine.md, R104, R123). -/

namespace Sys2Proof.Machine

-- The declarations are elaborated in turn: one thread does for the whole file.
set_option Elab.async false

/-! ### What a command does to the engine -/

/-- R123: the pending STATE entry shows the engine as it stands. -/
def State.ShowsEngine (s : State) : Prop :=
  ∃ e, keyedGet .state s.notices.pending = some e ∧
    e.detail = .state s.engine.state s.engine.standing s.engine.recoveryOwed s.engine.busStuck

/-- R104, R123: from `s` to `t` the engine's law is kept, and its state stays or goes where the table lists, with a
STATE event that shows it. -/
structure State.EngineMoves (s t : State) : Prop where
  sound : t.EngineSound
  listed : engineMayGo s.engine.state t.engine.state = true
  shown : keyedWf s.notices.pending = true → t.engine.state ≠ s.engine.state → s.notices.stateEnable = true →
    t.ShowsEngine

theorem engineMayGo_refl (st : EngineState) : engineMayGo st st = true := by cases st <;> rfl

theorem State.EngineMoves.of_state {s t : State} (sound : t.EngineSound) (state : t.engine.state = s.engine.state) :
    State.EngineMoves s t :=
  ⟨sound, by rw [state]; exact engineMayGo_refl _, fun _ changed => absurd state changed⟩

/-- What happens on the way to an event of the engine: events recorded, the engine's state as it was. -/
structure State.Noted (s u : State) : Prop where
  state : u.engine.state = s.engine.state
  enable : u.notices.stateEnable = s.notices.stateEnable
  wf : keyedWf s.notices.pending = true → keyedWf u.notices.pending = true

theorem State.Noted.refl (s : State) : State.Noted s s := ⟨rfl, rfl, id⟩

theorem State.Noted.trans {s t u : State} (first : State.Noted s t) (second : State.Noted t u) : State.Noted s u :=
  ⟨second.state.trans first.state, second.enable.trans first.enable, second.wf ∘ first.wf⟩

/-- The diagnostic counters are no part of the engine or the notice set. -/
theorem State.setDiag_noted (s : State) (d : DiagCounters) : State.Noted s (s.setDiag d) := ⟨rfl, rfl, id⟩

theorem State.raise_stateEnable (s : State) (p : Pair) (d : Detail) :
    (s.raise p d).notices.stateEnable = s.notices.stateEnable := by
  unfold State.raise; split <;> rfl

theorem State.raise_keyedWf {s : State} (p : Pair) (d : Detail) (wf : keyedWf s.notices.pending = true) :
    keyedWf (s.raise p d).notices.pending = true := by
  unfold State.raise; split
  · exact keyedWf_put _ _ _ wf
  · exact wf

/-- The parts of a command that may move the engine reach the notice set by events alone. -/
theorem State.Parts.notices_noted {c : Instr} {F : BusFrame → Prop} {s u : State} (parts : State.Parts c F s u)
    (moves : movesEngine c = true) :
    u.notices.stateEnable = s.notices.stateEnable ∧
      (keyedWf s.notices.pending = true → keyedWf u.notices.pending = true) := by
  induction parts with
  | refl => exact ⟨rfl, id⟩
  | tail _ part ih =>
    obtain ⟨enable, wf⟩ := ih
    cases part with
    | notices command keeps => simp [moves] at command
    | raise p d fits => exact ⟨(State.raise_stateEnable ..).trans enable, State.raise_keyedWf p d ∘ wf⟩
    | _ => exact ⟨enable, wf⟩

theorem State.Noted.of_parts {s u : State} (parts : State.Parts .txSent (fun _ => True) s u)
    (engine : u.engine = s.engine) : State.Noted s u :=
  have ⟨enable, wf⟩ := parts.notices_noted rfl
  ⟨by rw [engine], enable, wf⟩

theorem State.accept_engine (s : State) (f : BusFrame) (sender : Option SlotNo) :
    (s.accept f sender).engine = s.engine := (s.accept_frame f sender).1

theorem State.accept_txBuffer (s : State) (f : BusFrame) (sender : Option SlotNo) :
    (s.accept f sender).txBuffer = s.txBuffer := by
  obtain ⟨-, -, -, buffer, -⟩ := s.accept_frame f sender
  exact buffer

theorem State.settle_engine (s : State) (rec : TxRecord) (o : Outcome) : (s.settle rec o).engine = s.engine := by
  obtain ⟨-, -, engine, -⟩ := s.settle_frame rec o
  exact engine

theorem State.settle_txBuffer (s : State) (rec : TxRecord) (o : Outcome) : (s.settle rec o).txBuffer = none := by
  obtain ⟨buffer, -⟩ := s.settle_frame rec o
  exact buffer

theorem State.accept_noted (s : State) (f : BusFrame) (sender : Option SlotNo) : State.Noted s (s.accept f sender) :=
  .of_parts (State.accept_parts sender trivial) (s.accept_engine f sender)

theorem State.settle_noted {s : State} {rec : TxRecord} (o : Outcome) (buffer : s.txBuffer = some rec) :
    State.Noted s (s.settle rec o) :=
  .of_parts (State.settle_parts o (.inl rfl) buffer) (s.settle_engine rec o)

theorem State.raise_noted (s : State) (p : Pair) (d : Detail) : State.Noted s (s.raise p d) :=
  ⟨by rw [State.raise_engine], s.raise_stateEnable p d, State.raise_keyedWf p d⟩

/-! ### An event of the engine (R123) -/

theorem Entry.fold_detail (clock : Stamp) (d : Detail) (o : Option Entry) : (Entry.fold clock d o).detail = d := by
  cases o <;> rfl

/-- R123: a STATE event raised shows the engine. -/
theorem State.raiseState_shows {s : State} (wf : keyedWf s.notices.pending = true)
    (enable : s.notices.stateEnable = true) : (s.raiseState s.engine.standing).ShowsEngine := by
  have on : s.eventEnabled .state = true := enable
  simp only [State.raiseState, State.raise, on, if_true]
  exact ⟨_, keyedGet_put_self _ _ _ wf, Entry.fold_detail ..⟩

theorem State.engineEvent_shows {s : State} {e : Engine} (changed : e.state ≠ s.engine.state)
    (wf : keyedWf s.notices.pending = true) (enable : s.notices.stateEnable = true) : (s.engineEvent e).ShowsEngine := by
  have raised : s.engineEvent e = (s.setEngine e).raiseState e.standing := if_pos (.inl changed)
  rw [raised]
  exact State.raiseState_shows (s := s.setEngine e) wf enable

/-- An event of the engine that comes after others. -/
theorem State.engineEvent_moves {s u : State} {e : Engine} (noted : State.Noted s u) (sound : e.SoundWith u.txBuffer)
    (listed : engineMayGo s.engine.state e.state = true) : State.EngineMoves s (u.engineEvent e) := by
  refine ⟨?_, ?_, fun wf changed enable => ?_⟩
  · rw [State.engineSound_iff, State.engineEvent_engine, State.engineEvent_txBuffer]; exact sound
  · rw [State.engineEvent_engine]; exact listed
  · rw [State.engineEvent_engine] at changed
    exact State.engineEvent_shows (noted.state ▸ changed) (noted.wf wf) (noted.enable.trans enable)

/-! ### The frames of the bus -/

theorem State.frameEnd_moves {s : State} (sound : s.EngineSound) (f : BusFrame) :
    State.EngineMoves s (s.frameEnd f) := by
  unfold State.frameEnd
  split
  · next receives =>
    have engine : (s.countValid.accept f none).engine = s.engine := State.accept_engine ..
    refine State.engineEvent_moves ((s.setDiag_noted _).trans (State.accept_noted s.countValid f none)) ?_ ?_
    · rw [engine, State.accept_txBuffer]
      exact Engine.SoundWith.frameEnded sound receives
    · rw [engine]
      by_cases stopping : s.engine.state = .stopping
      · rw [Engine.frameEnded_of_stopping stopping, stopping]; rfl
      · rw [Engine.frameEnded_of_going stopping]; exact engineMayGo_refl _
  · exact .of_state sound rfl

theorem State.selection_moves {s : State} (sound : s.EngineSound) : State.EngineMoves s s.selection := by
  unfold State.selection
  split
  · next stands =>
    obtain ⟨active, mode, -⟩ := s.opportunity_iff.mp stands
    split
    · exact .of_state (Engine.SoundWith.offered sound _ active mode) rfl
    · exact .of_state sound rfl
  · exact .of_state sound rfl

/-- A fate's events are none of the STATE pair. -/
theorem State.accept_state_entry (s : State) (f : BusFrame) (sender : Option SlotNo) :
    keyedGet .state (s.accept f sender).notices.pending = keyedGet .state s.notices.pending := by
  have raised : ∀ (t : State) (p : Pair) (d : Detail), p ≠ .state →
      keyedGet .state (t.raise p d).notices.pending = keyedGet .state t.notices.pending := fun t p d other => by
    unfold State.raise; split
    · exact keyedGet_put_other (Ne.symm other) _ _
    · rfl
  rcases s.accept_cases f sender with ⟨n, h⟩ | ⟨n, payload, -, h⟩ | ⟨n, -, h⟩ | h <;> rw [h]
  · exact raised _ _ _ nofun
  · unfold State.claimPublish; split
    · exact raised _ _ _ nofun
    · rfl
  · unfold State.claimQuery; split
    · rfl
    · exact raised _ _ _ nofun
  · unfold State.unclaimed State.catchFrame; split
    · split
      · exact raised _ _ _ nofun
      · exact raised _ _ _ nofun
    · rfl

theorem State.EngineMoves.loopBack {s t : State} (moves : State.EngineMoves s t) (mode : Mode) (rec : TxRecord) :
    State.EngineMoves s (t.loopBack mode rec) := by
  unfold State.loopBack
  split
  · have engine : (t.countValid.accept rec.frame (some rec.slot)).engine = t.engine := State.accept_engine ..
    refine ⟨?_, ?_, fun wf changed enable => ?_⟩
    · rw [State.engineSound_iff, engine, State.accept_txBuffer]; exact moves.sound
    · rw [engine]; exact moves.listed
    · rw [engine] at changed
      obtain ⟨e, held, detail⟩ := moves.shown wf changed enable
      exact ⟨e, (State.accept_state_entry ..).trans held, by rw [engine]; exact detail⟩
  · exact moves

theorem State.txSent_moves {s : State} (sound : s.EngineSound) : State.EngineMoves s s.txSent := by
  unfold State.txSent
  split
  · next rec buffer =>
    split
    · next transmits =>
      refine State.EngineMoves.loopBack ?_ _ _
      have noted : State.Noted s (s.settle rec .sent).countSent :=
        (State.settle_noted .sent buffer).trans (State.setDiag_noted _ _)
      refine State.engineEvent_moves noted ?_ ?_
      · rw [State.settle_engine]
        change Engine.SoundWith _ (s.settle rec .sent).txBuffer
        rw [State.settle_txBuffer]
        exact Engine.SoundWith.sentFate sound transmits
      · rw [State.settle_engine]
        by_cases stopping : s.engine.state = .stopping
        · rw [Engine.sentFate_of_stopping stopping, stopping]; rfl
        · rw [Engine.sentFate_of_going stopping]; exact engineMayGo_refl _
    · exact .of_state sound rfl
  · exact .of_state sound rfl

theorem State.txLost_moves {s : State} (sound : s.EngineSound) : State.EngineMoves s s.txLost := by
  unfold State.txLost
  split
  · next rec buffer =>
    split
    · next lost =>
      obtain ⟨transmits, normal⟩ : s.engine.transmits = true ∧ s.engine.mode = .normal := by simpa using lost
      have engine : (s.settle rec .lost).countLost.engine = s.engine := s.settle_engine rec .lost
      refine .of_state ?_ (by simp [engine])
      rw [State.engineSound_iff, State.setEngine_engine, engine, State.setEngine_txBuffer]
      change Engine.SoundWith _ (s.settle rec .lost).txBuffer
      rw [State.settle_txBuffer]
      exact Engine.SoundWith.lost sound transmits normal
    · exact .of_state sound rfl
  · exact .of_state sound rfl

/-- R113: the engine withdraws to WITHDRAWN, or from STOPPING to OFFLINE; else its state stays. -/
theorem Engine.judge_state (e : Engine) :
    e.judge.state = e.state ∨ e.judge.state = if e.state = .stopping then .offline else .withdrawn := by
  unfold Engine.judge
  split
  · exact .inr rfl
  · exact .inl rfl

theorem State.txFaulted_moves {s : State} (sound : s.EngineSound) (kind : FaultKind) (afterTag : Bool) :
    State.EngineMoves s (s.txFaulted kind afterTag) := by
  unfold State.txFaulted
  split
  · next rec buffer =>
    split
    · next faulted =>
      obtain ⟨transmits, normal⟩ : s.engine.transmits = true ∧ s.engine.mode = .normal := by simpa using faulted
      obtain ⟨place, -⟩ := s.engine.transmits_iff.mp transmits
      generalize (s.slot rec.slot).faultOutcomeKind = o
      have noted : State.Noted s (((s.settle rec o).setDiag ((s.settle rec o).diag.countFault kind)).raise .busFault
          (.busFault kind .transmit)) :=
        ((State.settle_noted o buffer).trans (State.setDiag_noted _ _)).trans (State.raise_noted _ _ _)
      refine State.engineEvent_moves noted ?_ ?_
      · rw [State.settle_engine, State.raise_txBuffer, State.setDiag_txBuffer, State.settle_txBuffer]
        exact Engine.SoundWith.judged sound kind _ _ transmits normal
      · rw [State.settle_engine]
        rcases Engine.judge_state (s.engine.faultCounted kind (if afterTag = true then some rec.frame.tag else none)
          (s.settle rec o).clock) with same | withdraws
        · rw [same]; exact engineMayGo_refl _
        · rw [withdraws]
          rcases place with h | h <;> simp [Engine.faultCounted, h, engineMayGo]
    · exact .of_state sound rfl
  · exact .of_state sound rfl

theorem Engine.receives_of_detects {e : Engine} {kind : FaultKind} (detects : e.detects kind = true) :
    e.receives = true := by
  simp only [Engine.detects, Bool.and_eq_true] at detects
  exact detects.1

theorem State.rxFault_moves {s : State} (sound : s.EngineSound) (kind : FaultKind) (tag : Option Tag) :
    State.EngineMoves s (s.rxFault kind tag) := by
  unfold State.rxFault
  split
  · next detects =>
    refine State.engineEvent_moves ((s.setDiag_noted _).trans (State.raise_noted _ _ _)) ?_ (engineMayGo_refl _)
    rw [State.raise_txBuffer]
    exact Engine.SoundWith.rxFaulted sound kind tag s.clock (Engine.receives_of_detects detects)
  · exact .of_state sound rfl

theorem State.startBit_moves {s : State} (sound : s.EngineSound) : State.EngineMoves s s.startBit := by
  unfold State.startBit
  split
  · next reads => exact .of_state (Engine.SoundWith.started sound reads) rfl
  · exact .of_state sound rfl

/-! ### The engine's own events -/

theorem Engine.phase_of_inBurst {e : Engine} (burst : e.inBurst = true) : e.phase ≠ .sending := by
  obtain ⟨a, k, h⟩ := e.inBurst_iff.mp burst
  simp [h]

theorem State.stopComplete_moves {s : State} (sound : s.EngineSound) : State.EngineMoves s s.stopComplete := by
  unfold State.stopComplete
  split
  · next stops =>
    obtain ⟨stopping, burst⟩ := stops
    refine State.engineEvent_moves (.refl s) (Engine.SoundWith.stopped sound (Engine.phase_of_inBurst burst)) ?_
    rw [stopping]; rfl
  · exact .of_state sound rfl

theorem State.syncComplete_moves {s : State} (sound : s.EngineSound) : State.EngineMoves s s.syncComplete := by
  unfold State.syncComplete
  split
  · next syncing =>
    refine State.engineEvent_moves (.refl s) (Engine.SoundWith.synced sound syncing) ?_
    rw [syncing]; rfl
  · exact .of_state sound rfl

theorem State.recoveryInterval_moves {s : State} (sound : s.EngineSound) :
    State.EngineMoves s s.recoveryInterval := by
  unfold State.recoveryInterval
  split
  · next recovering =>
    refine State.engineEvent_moves (.refl s) (Engine.SoundWith.interval sound recovering) ?_
    unfold Engine.interval
    split
    · rw [recovering]; rfl
    · exact engineMayGo_refl _
  · exact .of_state sound rfl

theorem State.busStuck_moves {s : State} (sound : s.EngineSound) : State.EngineMoves s s.busStuck := by
  unfold State.busStuck
  split
  · next due => exact State.engineEvent_moves (.refl s) (Engine.SoundWith.watched sound due) (engineMayGo_refl _)
  · exact .of_state sound rfl

/-! ### The part clock -/

/-- Every expiry leaves the engine and the buffer alone. -/
theorem State.takeExpiries_kept (slots : List SlotNo) (s : State) :
    (slots.foldl State.takeExpiry s).engine = s.engine ∧ (slots.foldl State.takeExpiry s).txBuffer = s.txBuffer := by
  have one : ∀ (t : State) (n : SlotNo), (t.takeExpiry n).engine = t.engine ∧ (t.takeExpiry n).txBuffer = t.txBuffer :=
    fun t n => by
      unfold State.takeExpiry State.periodExpiry State.deadlineExpiry
      split <;> split <;> simp
  induction slots generalizing s with
  | nil => exact ⟨rfl, rfl⟩
  | cons n slots ih =>
    obtain ⟨engine, buffer⟩ := ih (s.takeExpiry n)
    exact ⟨engine.trans (one s n).1, buffer.trans (one s n).2⟩

theorem State.busStuck_state (s : State) : s.busStuck.engine.state = s.engine.state := by
  unfold State.busStuck; split
  · rw [State.engineEvent_engine]
  · rfl

theorem Engine.burstPassed_inBurst {e : Engine} (passed : e.burstPassed = true) : e.inBurst = true := by
  unfold Engine.burstPassed at passed
  unfold Engine.inBurst
  split at passed <;> simp_all

/-- The end of a burst that is surely over, after what else was overdue. -/
theorem State.takePassedBurst_moves {s u : State} (noted : State.Noted s u) (sound : u.EngineSound) :
    State.EngineMoves s u.takePassedBurst := by
  rcases u.takePassedBurst_cases with ⟨-, h⟩ | ⟨passed, stopping, h⟩ | ⟨passed, going, h⟩ <;> rw [h]
  · exact .of_state sound noted.state
  · have burst := Engine.burstPassed_inBurst passed
    refine State.engineEvent_moves noted (Engine.SoundWith.stopped sound (Engine.phase_of_inBurst burst)) ?_
    rw [← noted.state, stopping]; rfl
  · exact .of_state (Engine.SoundWith.burstOver sound going (Engine.burstPassed_inBurst passed)) noted.state

theorem State.EngineMoves.tick {s t : State} (moves : State.EngineMoves s t) : State.EngineMoves s t.tick :=
  ⟨Engine.SoundWith.ticked moves.sound, moves.listed, moves.shown⟩

theorem State.partClockAdvance_moves {s : State} (sound : s.EngineSound) :
    State.EngineMoves s s.takeOverdue.tick := by
  obtain ⟨engine, buffer⟩ := State.takeExpiries_kept allSlots s
  have noted : State.Noted s (allSlots.foldl State.takeExpiry s) :=
    .of_parts (State.takeExpiries_parts allSlots s) engine
  unfold State.takeOverdue
  generalize allSlots.foldl State.takeExpiry s = u at engine buffer noted
  have soundU : u.EngineSound := by rw [State.engineSound_iff, engine, buffer]; exact sound
  have notedStuck : State.Noted s u.busStuck := noted.trans (by
    obtain ⟨enable, wf⟩ := (State.busStuck_parts (c := .txSent) (F := fun _ => True) (s := u) rfl).notices_noted rfl
    exact ⟨u.busStuck_state, enable, wf⟩)
  have moves := State.takePassedBurst_moves notedStuck (State.busStuck_moves soundU).sound
  generalize u.busStuck.takePassedBurst = v at moves
  have linked : State.EngineMoves s (v.setLink v.link.takeOverdueGap) := ⟨moves.sound, moves.listed, moves.shown⟩
  exact linked.tick

/-! ### The host's requests on the engine -/

theorem State.request_moves {α : Type} {s : State} (code : Byte) (parse : List Byte → Except Reply α)
    {run : α → State → State × Reply} (sound : s.EngineSound)
    (effect : ∀ a t, State.EngineSound t → State.EngineMoves t (run a t).1) :
    State.EngineMoves s (s.request code parse run) := by
  rcases s.request_cases code parse run .replyWaiting with h | ⟨r, -, -, ⟨rep, -, h⟩ | ⟨a, -, h⟩⟩ <;> rw [h]
  · exact .of_state sound rfl
  · exact .of_state sound rfl
  · obtain ⟨sound, listed, shown⟩ := effect a s.dropRequest sound
    exact ⟨sound, listed, shown⟩

theorem doSetTiming_moves (a : Rate × SamplePoint) {s : State} (sound : s.EngineSound) :
    State.EngineMoves s (doSetTiming a s).1 := by
  unfold doSetTiming
  split
  · next offline => exact .of_state (Engine.SoundWith.setting sound offline _ _ _) rfl
  · exact .of_state sound rfl

theorem doSetMode_moves (m : Mode) {s : State} (sound : s.EngineSound) : State.EngineMoves s (doSetMode m s).1 := by
  unfold doSetMode
  split
  · next offline => exact .of_state (Engine.SoundWith.setting sound offline _ _ _) rfl
  · exact .of_state sound rfl

/-- R117: where the engine joins the bus. -/
theorem Engine.join_state (e : Engine) :
    e.join.state = .recovering ∨ (e.state ≠ .withdrawn ∧ (e.join.state = .active ∨ e.join.state = .syncing)) := by
  unfold Engine.join
  split
  · exact .inl rfl
  · next clear =>
    refine .inr ⟨fun h => clear (.inr h), ?_⟩
    split
    · exact .inl rfl
    · exact .inr rfl

theorem State.join_moves {s : State} (sound : s.EngineSound)
    (away : s.engine.state = .offline ∨ s.engine.state = .withdrawn) :
    State.EngineMoves s (s.engineEvent s.engine.join) := by
  refine State.engineEvent_moves (.refl s) (Engine.SoundWith.joined sound away) ?_
  rcases s.engine.join_state with h | ⟨other, h⟩
  · rw [h]; rcases away with h | h <;> rw [h] <;> rfl
  · rw [away.resolve_right other]; rcases h with h | h <;> rw [h] <;> rfl

theorem doGoOnline_moves (a : Unit) {s : State} (sound : s.EngineSound) : State.EngineMoves s (doGoOnline a s).1 := by
  unfold doGoOnline
  split
  · next offline => exact State.join_moves sound (.inl offline)
  · next withdrawn => exact State.join_moves sound (.inr withdrawn)
  all_goals exact .of_state sound rfl

theorem State.useFree_noted (s : State) : State.Noted s s.useFree := by
  unfold State.useFree; split <;> exact ⟨rfl, rfl, id⟩

theorem State.useFree_engineSound {s : State} (sound : s.EngineSound) : s.useFree.EngineSound := by
  unfold State.useFree; split <;> exact sound

theorem State.goOfflineNow_moves {s u : State} (noted : State.Noted s u) (sound : u.EngineSound)
    (idle : u.engine.phase ≠ .sending) (noOffline : engineMayGo s.engine.state .offline = true) :
    State.EngineMoves s u.goOfflineNow.1 :=
  State.engineEvent_moves noted (Engine.SoundWith.stopped sound idle) noOffline

/-- R118: with no frame in progress the engine sends none; in progress, it is neither quiet, in a gap nor in a delimiter. -/
theorem State.frameInProgress_spec (s : State) :
    (s.frameInProgress = false → s.engine.phase ≠ .sending) ∧
    (s.frameInProgress = true → s.engine.phase ≠ .quiet ∧ s.engine.phase ≠ .gap ∧ s.engine.phase ≠ .delimiter) := by
  unfold State.frameInProgress
  cases s.engine.phase <;> simp

theorem State.useFree_engine (s : State) : s.useFree.engine = s.engine := by
  unfold State.useFree; split <;> rfl

theorem doGoOffline_moves (a : Unit) {s : State} (sound : s.EngineSound) : State.EngineMoves s (doGoOffline a s).1 := by
  have leaves (away : s.engine.onLine = false) (listed : engineMayGo s.engine.state .offline = true) :
      State.EngineMoves s s.goOfflineNow.1 := by
    obtain ⟨quiet, -⟩ := Engine.SoundWith.quiet sound away
    exact State.goOfflineNow_moves (.refl s) sound (by simp [quiet]) listed
  unfold doGoOffline
  split
  · next active =>
    obtain ⟨idle, busy⟩ := s.frameInProgress_spec
    split
    · next progress =>
      refine State.engineEvent_moves s.useFree_noted ?_ (by rw [active]; rfl)
      exact Engine.SoundWith.stopping (State.useFree_engineSound sound) (by rw [State.useFree_engine]; exact active)
        (by rw [State.useFree_engine]; exact busy progress)
    · next progress =>
      exact State.goOfflineNow_moves s.useFree_noted (State.useFree_engineSound sound)
        (by rw [State.useFree_engine]; exact idle (by simpa using progress)) (by rw [active]; rfl)
  · next state => exact leaves (by simp [Engine.onLine, state]) (by rw [state]; rfl)
  · next state => exact leaves (by simp [Engine.onLine, state]) (by rw [state]; rfl)
  · next state => exact leaves (by simp [Engine.onLine, state]) (by rw [state]; rfl)
  · exact .of_state sound rfl
  · exact .of_state sound rfl

/-! ### Every command -/

/-- A command that does not write the engine leaves it and the transmit buffer as they are. -/
theorem State.Part.engine_kept {c : Instr} {F : BusFrame → Prop} {s t : State} (part : State.Part c F s t)
    (still : movesEngine c = false) : t.engine = s.engine ∧ t.txBuffer = s.txBuffer := by
  cases part with
  | engine e command => simp [still] at command
  | offer n command empty candidate => subst command; cases still
  | settle rec o command buffer => rcases command with h | h | ⟨_, _, h⟩ <;> subst h <;> cases still
  | raise p d fits => exact ⟨State.raise_engine .., State.raise_txBuffer ..⟩
  | _ => exact ⟨rfl, rfl⟩

theorem exec_moves {c : Instr} {s t : State} (sound : s.EngineSound) (noPowerUp : ∀ a b, c ≠ .powerUp a b)
    (noRestart : c ≠ .restartTakeEffect) (run : exec c s = .next t) : State.EngineMoves s t := by
  cases moves : movesEngine c with
  | false =>
    obtain ⟨engine, buffer⟩ := (exec_run noPowerUp noRestart run).keeps
      (P := fun u => u.engine = s.engine ∧ u.txBuffer = s.txBuffer) (fun _ _ => id)
      (fun _ _ part kept => ⟨(part.engine_kept moves).1.trans kept.1, (part.engine_kept moves).2.trans kept.2⟩) ⟨rfl, rfl⟩
    exact .of_state (by rw [State.engineSound_iff, engine, buffer]; exact sound) (by rw [engine])
  | true =>
    cases c with
    | setTiming => cases run; exact State.request_moves _ _ sound fun a _ => doSetTiming_moves a
    | setMode => cases run; exact State.request_moves _ _ sound fun m _ => doSetMode_moves m
    | goOnline => cases run; exact State.request_moves _ _ sound fun a _ => doGoOnline_moves a
    | goOffline => cases run; exact State.request_moves _ _ sound fun a _ => doGoOffline_moves a
    | frameEnd f =>
      simp only [exec, execFrameEnd] at run
      split at run <;> cases run
      exact State.frameEnd_moves sound f
    | selection => cases run; exact State.selection_moves sound
    | txSent => cases run; exact State.txSent_moves sound
    | txLost => cases run; exact State.txLost_moves sound
    | txFaulted kind afterTag =>
      simp only [exec, execTxFaulted] at run
      split at run <;> cases run
      exact State.txFaulted_moves sound kind afterTag
    | rxFault kind tag =>
      simp only [exec, execRxFault] at run
      split at run <;> cases run
      exact State.rxFault_moves sound kind tag
    | stopComplete => cases run; exact State.stopComplete_moves sound
    | syncComplete => cases run; exact State.syncComplete_moves sound
    | recoveryInterval => cases run; exact State.recoveryInterval_moves sound
    | busStuck => cases run; exact State.busStuck_moves sound
    | partClockAdvance =>
      rw [exec_partClockAdvance] at run
      exact Host.Outcome.next.inj run ▸ State.partClockAdvance_moves sound
    | startBitRead => cases run; exact State.startBit_moves sound
    | _ => cases moves

theorem State.afterReset_engineSound (clock : Stamp) (baud : Baud) (cause : HelloCause) (free : Nat)
    (queue : List Instr) : (State.afterReset clock baud cause free queue).EngineSound := by
  change Engine.SoundWith .reset none
  decide

/-- Settles O7: by the commands that write the engine, each with what its event leaves of the law. -/
theorem stepKeepsTheEngineSound : Obligations.StepKeepsTheEngineSound := by
  intro s t
  exact step_preserves (P := State.EngineSound) (fun _ _ => id) State.afterReset_engineSound
    fun _ _ _ noPowerUp noRestart run sound => (exec_moves sound noPowerUp noRestart run).sound

/-- Settles O11: a change of the engine's state is an event of the engine, which raises STATE, and nothing after it
touches the entry. -/
theorem engineStateGoesOnlyWhereListed : Obligations.EngineStateGoesOnlyWhereListed := by
  intro c s t sound wf noPowerUp noRestart run
  obtain ⟨-, listed, shown⟩ := exec_moves sound noPowerUp noRestart run
  exact ⟨listed, shown wf⟩

end Sys2Proof.Machine
end

section
/-! PROOFS. The host link's law: the reply history, the framer, the output order and the processor, command by command
(08_the_host_link.md). -/

namespace Sys2Proof.Machine

-- The declarations are elaborated in turn: one thread does for the whole file.
set_option Elab.async false

/-! ### The reply history (R156) -/

theorem historyPut_of_room {h : List HistEntry} {e : HistEntry} (room : (h.filter fun x => x.seq ≠ e.seq).length < 4) :
    historyPut h e = (h.filter fun x => x.seq ≠ e.seq) ++ [e] :=
  congrArg (· ++ [e]) (if_neg (Nat.not_le.mpr room))

/-- With no entry of its SEQ among at most 4, the reply drives the oldest of 4 out, or joins them. -/
theorem historyPut_of_absent {h : List HistEntry} {e : HistEntry} (absent : ∀ x ∈ h, x.seq ≠ e.seq) :
    (h.length < 4 → historyPut h e = h ++ [e]) ∧ (4 ≤ h.length → historyPut h e = h.tail ++ [e]) := by
  have kept : (h.filter fun x => x.seq ≠ e.seq) = h := List.filter_eq_self.mpr fun x hx => by simpa using absent x hx
  refine ⟨fun room => ?_, fun full => ?_⟩
  · rw [historyPut_of_room (by rw [kept]; exact room), kept]
  · have oldest : historyPut h e = (h.filter fun x => x.seq ≠ e.seq).drop 1 ++ [e] :=
      congrArg (· ++ [e]) (if_pos (by rw [kept]; exact full))
    rw [oldest, kept, List.drop_one]

/-- In a history with no SEQ twice the other entries have other SEQ. -/
theorem seq_ne_of_distinct {pre post : List HistEntry} {x : HistEntry}
    (distinct : ((pre ++ x :: post).map fun y => y.seq).Nodup) : ∀ y ∈ pre ++ post, y.seq ≠ x.seq := by
  have moved := (List.perm_middle.map fun y : HistEntry => y.seq).nodup_iff.mp distinct
  obtain ⟨alone, -⟩ := List.nodup_cons.mp moved
  exact fun y hy same => alone (List.mem_map.mpr ⟨y, hy, same⟩)

/-- An entry of its SEQ, of which there is no second, leaves, and no other does. -/
theorem historyPut_of_present {pre post : List HistEntry} {x e : HistEntry}
    (fits : (pre ++ x :: post).length ≤ 4) (distinct : ((pre ++ x :: post).map fun y => y.seq).Nodup)
    (same : x.seq = e.seq) : historyPut (pre ++ x :: post) e = pre ++ post ++ [e] := by
  have others : ∀ y ∈ pre ++ post, y.seq ≠ e.seq := same ▸ seq_ne_of_distinct distinct
  have kept : ((pre ++ x :: post).filter fun y => y.seq ≠ e.seq) = pre ++ post := by
    rw [List.filter_append, List.filter_cons_of_neg (by simpa using same), ← List.filter_append,
      List.filter_eq_self.mpr fun y hy => by simpa using others y hy]
  rw [historyPut_of_room (by rw [kept]; simp at fits ⊢; omega), kept]

/-- What a reply leaves of the history, at most 4 entries of different SEQ: one of its own SEQ gone, or the oldest of 4
gone, or all of them. -/
theorem historyPut_cases {h : List HistEntry} (e : HistEntry) (fits : h.length ≤ 4)
    (distinct : (h.map fun x => x.seq).Nodup) :
    ∃ kept, historyPut h e = kept ++ [e] ∧ kept.length ≤ 3 ∧ List.Sublist kept h ∧ (∀ x ∈ kept, x.seq ≠ e.seq) ∧
      ∀ x ∈ h, x.seq ≠ e.seq → h.head? ≠ some x → x ∈ kept := by
  by_cases present : ∃ x ∈ h, x.seq = e.seq
  · obtain ⟨x, member, same⟩ := present
    obtain ⟨pre, post, rfl⟩ := List.append_of_mem member
    refine ⟨_, historyPut_of_present fits distinct same, by simp at fits ⊢; omega, ?_,
      same ▸ seq_ne_of_distinct distinct, fun y hy other _ => ?_⟩
    · exact (List.sublist_cons_self x post).append_left pre
    · have : y ≠ x := fun h => other (h ▸ same)
      simp only [List.mem_append, List.mem_cons, this, false_or] at hy ⊢
      exact hy
  · have absent : ∀ x ∈ h, x.seq ≠ e.seq := fun x hx clash => present ⟨x, hx, clash⟩
    obtain ⟨joins, drives⟩ := historyPut_of_absent absent
    rcases Nat.lt_or_ge h.length 4 with room | full
    · exact ⟨h, joins room, by omega, .refl _, absent, fun x hx _ _ => hx⟩
    · refine ⟨h.tail, drives full, by simp; omega, List.tail_sublist h, fun x hx => absent x (List.mem_of_mem_tail hx),
        fun x hx _ older => ?_⟩
      cases h with
      | nil => cases hx
      | cons y h => exact (List.mem_cons.mp hx).resolve_left fun same => older (by rw [same]; rfl)

/-- At most 4 entries stay, and no SEQ is twice. -/
theorem historyPut_sound {h : List HistEntry} (e : HistEntry) (fits : h.length ≤ 4)
    (distinct : (h.map fun x => x.seq).Nodup) :
    (historyPut h e).length ≤ 4 ∧ ((historyPut h e).map fun x => x.seq).Nodup := by
  obtain ⟨kept, put, length, sub, others, -⟩ := historyPut_cases e fits distinct
  rw [put]
  refine ⟨by simp; omega, ?_⟩
  rw [List.map_append, List.map_singleton, List.perm_append_comm.nodup_iff, List.singleton_append, List.nodup_cons]
  refine ⟨fun twice => ?_, distinct.sublist (sub.map _)⟩
  obtain ⟨x, hx, same⟩ := List.mem_map.mp twice
  exact others x hx same

/-- Settles O18: by whether an entry of the reply's SEQ is there, and if not, by the room. -/
theorem historyKeepsTheFourNewestReplies : Obligations.HistoryKeepsTheFourNewestReplies := by
  intro h e fits distinct
  obtain ⟨length, nodup⟩ := historyPut_sound e fits distinct
  obtain ⟨kept, put, -, -, -, stays⟩ := historyPut_cases e fits distinct
  refine ⟨length, nodup, by rw [put, List.getLast?_concat], fun x hx other younger => ?_, fun full absent => ?_,
    fun pre x post split same => ?_, fun room absent => ?_⟩
  · rw [put]; exact List.mem_append_left _ (stays x hx other younger)
  · exact (historyPut_of_absent absent).2 (Nat.le_of_eq full.symm)
  · subst split
    exact historyPut_of_present fits distinct same
  · exact (historyPut_of_absent absent).1 room

/-! ### Counters of the link (R161) -/

theorem satAdd_half_le (n : Nat) : satAdd Config.halfMax n 1 ≤ 65535 := Nat.min_le_left _ _

theorem LinkCounters.sound_zero : LinkCounters.zero.Sound := by decide

theorem LinkCounters.Sound.lengthFault {c : LinkCounters} (sound : c.Sound) : c.lengthFault.Sound :=
  ⟨satAdd_half_le _, sound.2⟩
theorem LinkCounters.Sound.gapTimeout {c : LinkCounters} (sound : c.Sound) : c.gapTimeout.Sound :=
  have ⟨a, _, rest⟩ := sound
  ⟨a, satAdd_half_le _, rest⟩
theorem LinkCounters.Sound.checkFailure {c : LinkCounters} (sound : c.Sound) : c.checkFailure.Sound :=
  have ⟨a, b, _, rest⟩ := sound
  ⟨a, b, satAdd_half_le _, rest⟩
theorem LinkCounters.Sound.rejectDropped {c : LinkCounters} (sound : c.Sound) : c.rejectDropped.Sound :=
  have ⟨a, b, d, _, rest⟩ := sound
  ⟨a, b, d, satAdd_half_le _, rest⟩
theorem LinkCounters.Sound.resent {c : LinkCounters} (sound : c.Sound) : c.resent.Sound :=
  have ⟨a, b, d, e, _, rest⟩ := sound
  ⟨a, b, d, e, satAdd_half_le _, rest⟩
theorem LinkCounters.Sound.discarded {c : LinkCounters} (sound : c.Sound) : c.discarded.Sound :=
  have ⟨a, b, d, e, f, _⟩ := sound
  ⟨a, b, d, e, f, satAdd_half_le _⟩

/-! ### What the link's fields may become under its law (R153, R154, R156) -/

/-- The fresh replies that wait, as the processor's state says. -/
abbrev OutputSound (waiting : List OutItem) (p : Processor) : Prop :=
  (waiting.filter OutItem.isReject).length ≤ 4 ∧
    (waiting.filter OutItem.isFresh).length = if p = .replyWaiting ∨ p = .restartReplyWaiting then 1 else 0

@[simp] theorem OutItem.isReject_reply (fresh : Bool) (frame : List Byte) : (OutItem.reply fresh frame).isReject = false :=
  rfl
@[simp] theorem OutItem.isReject_reject (r : Reject) : (OutItem.reject r).isReject = true := rfl
@[simp] theorem OutItem.isFresh_reply (fresh : Bool) (frame : List Byte) : (OutItem.reply fresh frame).isFresh = fresh :=
  rfl
@[simp] theorem OutItem.isFresh_reject (r : Reject) : (OutItem.reject r).isFresh = false := rfl

/-- The link's law, by the blocks of it that commands write together. -/
theorem Link.sound_iff (l : Link) :
    l.Sound ↔ l.framer.Sound ∧ (l.inbox.length ≤ 4 ∧ ∀ r ∈ l.inbox, r.body.length ≤ 60) ∧
      (l.history.length ≤ 4 ∧ (l.history.map fun e => e.seq).Nodup) ∧ OutputSound l.waiting l.processor ∧
      l.counters.Sound := by
  simp only [Link.Sound, OutputSound, and_assoc]

section
variable {l : Link}

theorem Link.Sound.withFramer (sound : l.Sound) {f : Framer} (framer : f.Sound) : { l with framer := f }.Sound :=
  ⟨framer, sound.2⟩

theorem Link.Sound.withCounters (sound : l.Sound) {c : LinkCounters} (counters : c.Sound) :
    { l with counters := c }.Sound := by
  obtain ⟨framer, inbox, history, output, -⟩ := l.sound_iff.mp sound
  exact (Link.sound_iff _).mpr ⟨framer, inbox, history, output, counters⟩

theorem Link.Sound.withWaiting (sound : l.Sound) {waiting : List OutItem} (output : OutputSound waiting l.processor) :
    { l with waiting := waiting }.Sound := by
  obtain ⟨framer, inbox, history, -, counters⟩ := l.sound_iff.mp sound
  exact (Link.sound_iff _).mpr ⟨framer, inbox, history, output, counters⟩

theorem Link.Sound.counters (sound : l.Sound) : l.counters.Sound := by
  obtain ⟨-, -, -, -, counters⟩ := l.sound_iff.mp sound
  exact counters

theorem Link.Sound.output (sound : l.Sound) : OutputSound l.waiting l.processor := by
  obtain ⟨-, -, -, output, -⟩ := l.sound_iff.mp sound
  exact output

/-! ### Rejects and received frames (R151 to R153) -/

theorem Link.Sound.produceReject (sound : l.Sound) (r : Reject) : (l.produceReject r).Sound := by
  rcases Nat.lt_or_ge (l.waiting.filter OutItem.isReject).length 4 with room | full
  · rw [Link.produceReject_of_room r room]
    refine sound.withWaiting ⟨?_, ?_⟩
    · rw [rejects_append_reject]; exact room
    · rw [List.filter_append, ← sound.output.2]; simp
  · rw [Link.produceReject_of_full r full]
    exact sound.withCounters sound.counters.rejectDropped

theorem Link.Sound.badCheck (sound : l.Sound) : l.badCheck.Sound :=
  (sound.withCounters sound.counters.checkFailure).produceReject _

/-- A resend is neither a reject nor a fresh reply. -/
theorem Link.Sound.resend (sound : l.Sound) (frame : List Byte) :
    { l with waiting := l.waiting ++ [OutItem.reply false frame], counters := l.counters.resent }.Sound := by
  obtain ⟨rejects, fresh⟩ := sound.output
  have output : OutputSound (l.waiting ++ [OutItem.reply false frame]) l.processor := by
    rw [OutputSound, List.filter_append, List.filter_append]
    simpa using And.intro rejects fresh
  exact (sound.withWaiting output).withCounters sound.counters.resent

theorem Link.Sound.receive (sound : l.Sound) {r : Request} (room : l.inbox.length < 4) (body : r.body.length ≤ 60) :
    { l with inbox := l.inbox ++ [r] }.Sound := by
  obtain ⟨framer, ⟨-, bodies⟩, history, output, counters⟩ := l.sound_iff.mp sound
  refine (Link.sound_iff _).mpr ⟨framer, ⟨by simp; omega, fun q hq => ?_⟩, history, output, counters⟩
  rcases List.mem_append.mp hq with h | h
  · exact bodies q h
  · rw [List.mem_singleton.mp h]; exact body

theorem Link.Sound.takeFrame (sound : l.Sound) {r : Request} (body : r.body.length ≤ 60) : (l.takeFrame r).Sound := by
  unfold Link.takeFrame
  split
  · split
    · exact sound.withCounters sound.counters.discarded
    · exact sound.resend _
  · split
    · exact sound.withCounters sound.counters.discarded
    · split
      · exact sound.produceReject _
      · next room => exact sound.receive (Nat.not_le.mp room) body

/-! ### The framer (R149, R150) -/

/-- The request of a frame that the framer completes has a body that a frame can hold. -/
theorem Framer.byte_frame_body {f : Framer} (sound : f.Sound) {b : Byte} {good : Bool} {r : Request}
    (found : (f.byte b).2 = .frame good r) : r.body.length ≤ 60 := by
  match buf : f.buf with
  | [] => rw [Framer.byte_of_hunting buf] at found; split at found <;> cases found
  | [x] =>
    rw [Framer.byte_of_synced buf] at found
    unfold Framer.lenByte at found
    split at found
    · cases found
    · split at found <;> cases found
  | x :: len :: got =>
    obtain ⟨-, -, -, most, -⟩ := (Framer.sound_iff_of_len_read buf).mp sound
    rw [Framer.byte_of_len_read buf] at found
    split at found
    · cases found
    · split at found
      · cases found
      · cases found
        simp [requestOf]; omega

theorem Link.Sound.react (sound : l.Sound) {ev : FramerEvent}
    (body : ∀ good r, ev = .frame good r → r.body.length ≤ 60) : (l.react ev).Sound := by
  cases ev with
  | none => exact sound
  | lengthFault => exact sound.withCounters sound.counters.lengthFault
  | frame good r =>
    cases good with
    | false => exact sound.badCheck
    | true => exact sound.takeFrame (body true r rfl)

theorem Link.Sound.framer (sound : l.Sound) : l.framer.Sound := sound.1

theorem Link.Sound.byte (sound : l.Sound) (b : Byte) : (l.byte b).Sound :=
  (sound.withFramer (Framer.byte_sound sound.framer b)).react fun _ _ => Framer.byte_frame_body sound.framer

theorem Link.Sound.gap (sound : l.Sound) : l.gap.Sound :=
  (sound.withFramer Framer.sound_hunting).withCounters sound.counters.gapTimeout

theorem Link.Sound.takeOverdueGap (sound : l.Sound) : l.takeOverdueGap.Sound := by
  unfold Link.takeOverdueGap
  split
  · exact sound.gap
  · exact sound

theorem Link.Sound.foldl_byte (sound : l.Sound) (bs : List Byte) : (bs.foldl Link.byte l).Sound := by
  induction bs generalizing l with
  | nil => exact sound
  | cons b bs ih => exact ih (sound.byte b)

theorem Link.Sound.bytes (sound : l.Sound) (bs : List Byte) : (l.bytes bs).Sound := by
  unfold Link.bytes
  split
  · exact sound
  · exact sound.takeOverdueGap.foldl_byte _

theorem Link.Sound.gapAfter (sound : l.Sound) (bs : List Byte) : (l.gapAfter bs).Sound := by
  simp only [Link.gapAfter]
  split
  · exact (sound.bytes bs).gap
  · exact sound.bytes bs

theorem Framer.Sound.tick {f : Framer} (sound : f.Sound) : f.tick.Sound := by
  unfold Framer.tick
  split
  · obtain ⟨-, held⟩ := sound
    refine ⟨Nat.min_le_left _ _, held.imp_right (Or.imp_left fun synced => ?_)⟩
    rw [synced]
  · exact sound

/-! ### The output arbiter (R157, R160) -/

theorem Link.Sound.beginHello (sound : l.Sound) (clock : Stamp) : (l.beginHello clock).Sound := by
  unfold Link.beginHello
  split <;> exact sound

theorem OutputSound.begin_reply {fresh : Bool} {frame : List Byte} {rest : List OutItem} {p : Processor}
    (sound : OutputSound (.reply fresh frame :: rest) p) : OutputSound rest (p.afterBegin fresh) := by
  obtain ⟨rejects, count⟩ := sound
  refine ⟨rejects, ?_⟩
  cases fresh with
  | false => exact count
  | true =>
    rw [List.filter_cons_of_pos (by rfl), List.length_cons] at count
    cases p with
    | free => simp at count
    | restartReplyOnLine => simp at count
    | replyWaiting => exact Nat.succ.inj count
    | restartReplyWaiting => exact Nat.succ.inj count

theorem Link.Sound.beginReply (sound : l.Sound) : l.beginReply.Sound := by
  unfold Link.beginReply
  split
  · split
    · next waiting =>
      obtain ⟨framer, inbox, history, output, counters⟩ := l.sound_iff.mp sound
      rw [waiting] at output
      exact (Link.sound_iff _).mpr ⟨framer, inbox, history, output.begin_reply, counters⟩
    · exact sound
    · exact sound
  · exact sound

theorem Link.Sound.beginReject (sound : l.Sound) : l.beginReject.Sound := by
  unfold Link.beginReject
  split
  · split
    · next waiting =>
      obtain ⟨rejects, fresh⟩ := sound.output
      rw [waiting] at rejects fresh
      rw [List.filter_cons_of_pos (by rfl), List.length_cons] at rejects
      exact sound.withWaiting (waiting := _) ⟨by omega, fresh⟩
    · exact sound
    · exact sound
  · exact sound

/-! ### Carrying out requests (R154, R156) -/

theorem Link.next_free {r : Request} (next : l.next = some r) : l.processor = .free := by
  unfold Link.next at next
  split at next
  · assumption
  · cases next

/-- A request answered: its reply is the only fresh one. -/
theorem Link.Sound.answered (sound : l.Sound) (free : l.processor = .free) (r : Request) (rep : Reply)
    {after : Processor} (processor : after = .replyWaiting ∨ after = .restartReplyWaiting) {c : LinkCounters}
    (counters : c.Sound) :
    ({ l with inbox := l.inbox.tail, counters := c }.answer r rep after).Sound := by
  obtain ⟨framer, ⟨length, bodies⟩, ⟨fits, distinct⟩, ⟨rejects, fresh⟩, -⟩ := l.sound_iff.mp sound
  rw [free] at fresh
  refine (Link.sound_iff _).mpr ⟨framer, ⟨by simp [Link.answer]; omega, fun q hq => bodies q (List.mem_of_mem_tail hq)⟩,
    historyPut_sound _ fits distinct, ⟨?_, ?_⟩, counters⟩
  · rw [Link.answer, List.filter_append]; simpa using rejects
  · have none : (l.waiting.filter OutItem.isFresh).length = 0 := fresh
    rw [Link.answer, List.filter_append, if_pos processor, List.length_append, none]
    rfl

end

theorem State.RequestRun.link_sound {c : Instr} {F : BusFrame → Prop} {s t : State} (run : State.RequestRun c F s t)
    (sound : s.link.Sound) : t.link.Sound := by
  rcases run with rfl | ⟨r, rep, after, u, k, next, parts, counters, processor, rfl⟩
  · exact sound
  · have link : u.link = { s.link with inbox := s.link.inbox.tail } := parts.link_eq
    have counted : k.Sound := by
      rcases counters with rfl | rfl
      · rw [link]; exact sound.counters
      · exact LinkCounters.sound_zero
    have := sound.answered (Link.next_free next) r rep processor counted
    simpa [State.finish, link] using this

theorem Link.sound_reset (baud : Baud) (cause : HelloCause) : (Link.reset baud cause).Sound :=
  ⟨Framer.sound_hunting, by simp [Link.reset], by simp [Link.reset], by simp [Link.reset], by simp [Link.reset],
    by simp [Link.reset], by simp [Link.reset], LinkCounters.sound_zero⟩

theorem exec_link_sound {c : Instr} {s t : State} (noPowerUp : ∀ a b, c ≠ .powerUp a b)
    (noRestart : c ≠ .restartTakeEffect) (run : exec c s = .next t) (sound : s.link.Sound) : t.link.Sound := by
  cases request : requestCode c with
  | some code => exact (exec_requestRun (F := fun _ => True) request run).link_sound sound
  | none =>
    by_cases bus : isBusEvent c = true
    · rw [(exec_parts bus run).link_eq]; exact sound
    cases c with
    | powerUp a b => exact absurd rfl (noPowerUp a b)
    | restartTakeEffect => exact absurd rfl noRestart
    | requestUnknownKind =>
      cases run
      exact (s.refuseUnknown_run (c := .requestUnknownKind) (F := fun _ => True)).link_sound sound
    | hostFrameReceived bytes => cases run; exact sound.bytes bytes
    | lengthFault bytes => cases run; exact sound.bytes bytes
    | gapTimeout bytes => cases run; exact sound.gapAfter bytes
    | helloBegin => cases run; exact sound.beginHello s.clock
    | replyBegin => cases run; exact sound.beginReply
    | rejectBegin => cases run; exact sound.beginReject
    | noticeDelivery =>
      cases run
      unfold State.deliver
      split
      · split <;> exact sound
      · exact sound
    | partClockAdvance =>
      rw [exec_partClockAdvance] at run
      obtain ⟨u, -, state⟩ := s.partClockAdvance_parts (c := .partClockAdvance) (F := fun _ => True) rfl
      rw [← Host.Outcome.next.inj run, state]
      exact sound.takeOverdueGap.withFramer sound.takeOverdueGap.framer.tick
    | _ => simp [requestCode, isBusEvent] at request bus

/-- Settles O9: by what each command writes of the link, its law kept by every such write. -/
theorem stepKeepsTheHostLinkSound : Obligations.StepKeepsTheHostLinkSound := by
  intro s t
  exact step_preserves (P := fun s => s.link.Sound) (fun _ _ => id) (fun _ _ _ _ _ => Link.sound_reset _ _)
    fun _ _ _ => exec_link_sound

end Sys2Proof.Machine
end

section
/-! PROOFS. The step, the two resets, and the small statements of the engine, the arbiter and the end of a frame. -/

namespace Sys2Proof.Machine

-- The declarations are elaborated in turn: one thread does for the whole file.
set_option Elab.async false

/-! ### The step -/

/-- Settles O1: the two lines of the step. -/
theorem stepTakesTheFrontCommand : Obligations.StepTakesTheFrontCommand :=
  ⟨fun _ _ _ => step_of_command, fun _ => step_of_empty⟩

/-! ### The two resets (R1, R159) -/

theorem State.afterReset_slot (clock : Stamp) (baud : Baud) (cause : HelloCause) (free : Nat) (queue : List Instr)
    (n : SlotNo) : (State.afterReset clock baud cause free queue).slot n = Slot.reset := by
  simp [State.slot_eq, State.afterReset]

theorem exec_powerUp (rate1 rate0 : Bool) (s : State) :
    exec (.powerUp rate1 rate0) s
      = .next (State.afterReset 0 (baudOf rate1 rate0) .powerUp s.freeCount s.pending) := rfl

/-- Settles O2: block by block; of the link, the rate alone depends on the pins. -/
theorem powerUpGivesTheResetValues : Obligations.PowerUpGivesTheResetValues := by
  intro rate1 rate0 s
  refine ⟨_, exec_powerUp rate1 rate0 s, fun n => State.afterReset_slot _ _ _ _ _ n, rfl, rfl, rfl, rfl, rfl, rfl, rfl,
    rfl, rfl, rfl, rfl, rfl, rfl, rfl, rfl, rfl, rfl, rfl, rfl, rfl, rfl, rfl, rfl, ?link, rfl, rfl⟩
  case link =>
    cases rate1 with
    | false => cases rate0 <;> rfl
    | true => cases rate0 <;> rfl

theorem exec_restart (s : State) :
    exec .restart s = .next (s.request 0x02 parseNone doRestart .restartReplyWaiting) := rfl

theorem exec_restartTakeEffect (s : State) : exec .restartTakeEffect s = .next s.restart := rfl

theorem State.restart_of_onLine {s : State} (onLine : s.link.processor = .restartReplyOnLine) :
    s.restart = State.afterReset s.clock s.link.baud .restart s.freeCount s.pending := if_pos onLine

theorem State.restart_of_other {s : State} (other : s.link.processor ≠ .restartReplyOnLine) : s.restart = s :=
  if_neg other

/-- Settles O3: RESTART is answered as it stands; the restart itself waits for the reply to be on the line. -/
theorem restartFollowsItsReply : Obligations.RestartFollowsItsReply := by
  refine ⟨fun s r taken kind body => ?reply, fun s onLine => ?effect, fun s other => ?waits⟩
  case reply =>
    refine ⟨_, exec_restart s, ?_, ?_⟩
    · rw [State.request_of_takes taken kind, State.carryOut, body]
      rfl
    · rw [State.request_of_takes taken kind, State.carryOut, body]
      rintro q ⟨free, -⟩
      cases free
  case effect =>
    refine ⟨_, exec_restartTakeEffect s, _, exec_powerUp false false s, ?_, fun n => ?_⟩
    · rw [State.restart_of_onLine onLine]; rfl
    · rw [State.restart_of_onLine onLine, State.afterReset_slot]; exact ⟨rfl, rfl⟩
  case waits => rw [exec_restartTakeEffect, State.restart_of_other other]

theorem DiagCounters.sound_zero : DiagCounters.zero.Sound := by decide

/-- The laws hold after either reset. -/
theorem State.afterReset_laws (clock : Stamp) (baud : Baud) (cause : HelloCause) (free : Nat) (queue : List Instr) :
    let t := State.afterReset clock baud cause free queue
    t.SlotsSound ∧ t.TagsUnique ∧ t.catchQ.Sound ∧ t.EngineSound ∧ t.diag.Sound ∧ t.notices.Sound ∧ t.link.Sound :=
  ⟨State.afterReset_slotsSound .., State.afterReset_tagsUnique _ _ _ _ _, CatchQueue.reset_sound,
    State.afterReset_engineSound .., DiagCounters.sound_zero, Notices.reset_sound, Link.sound_reset ..⟩

/-- Settles O4: each law at the reset values. -/
theorem powerUpMeetsTheLaws : Obligations.PowerUpMeetsTheLaws := by
  intro rate1 rate0 s
  obtain ⟨slots, tags, catchQ, engine, diag, notices, link⟩ :=
    State.afterReset_laws 0 (baudOf rate1 rate0) .powerUp s.freeCount s.pending
  exact ⟨_, exec_powerUp rate1 rate0 s, slots, tags, catchQ, engine, diag, notices, link, State.afterReset_laws ..⟩

/-! ### Unknown kinds (R154) -/

theorem exec_requestUnknownKind (s : State) : exec .requestUnknownKind s = .next s.refuseUnknown := rfl

/-- R147: the codes of the requests, as numbers. -/
theorem isRequestCode_iff (kind : Byte) : isRequestCode kind = true ↔ kind ≠ 0 ∧ kind.toNat ≤ 0x16 := by
  have zero : 1 ≤ kind.toNat ↔ kind ≠ 0 := by
    rw [Nat.one_le_iff_ne_zero, ne_eq, ne_eq, ← BitVec.toNat_inj]; rfl
  rw [isRequestCode, Bool.and_eq_true, decide_eq_true_eq, decide_eq_true_eq, zero]

theorem Link.next_eq_some {l : Link} {r : Request} :
    l.next = some r ↔ l.processor = .free ∧ l.inbox.head? = some r := by
  unfold Link.next
  split
  · next free => simp [free]
  · next other => exact ⟨nofun, fun ⟨free, _⟩ => absurd free other⟩

/-- Settles O20: by the request that the processor takes next. -/
theorem unknownKindsAreRefused : Obligations.UnknownKindsAreRefused := by
  refine ⟨fun s r taken unknown => ?refused, fun s known => ?nothing⟩
  case refused =>
    have bad : isRequestCode r.kind ≠ true := fun code => by
      obtain ⟨some, most⟩ := (isRequestCode_iff _).mp code
      exact unknown.elim some (Nat.not_lt.mpr most)
    rw [exec_requestUnknownKind, State.refuseUnknown, Link.next_eq_some.mpr taken]
    exact congrArg _ (if_neg bad)
  case nothing =>
    rw [exec_requestUnknownKind, State.refuseUnknown]
    cases next : s.link.next with
    | none => rfl
    | some r =>
      have code := (isRequestCode_iff _).mpr (known r (Link.next_eq_some.mp next))
      exact congrArg _ (if_pos code)

/-! ### The output arbiter (R157, R160) -/

theorem exec_helloBegin (s : State) :
    exec .helloBegin s = .next (s.setLink (s.link.beginHello s.clock)) := rfl
theorem exec_replyBegin (s : State) : exec .replyBegin s = .next (s.setLink s.link.beginReply) := rfl
theorem exec_noticeDelivery (s : State) : exec .noticeDelivery s = .next s.deliver := rfl

theorem Link.beginReply_of_held {l : Link} (held : l.mayBegin = false) : l.beginReply = l := by
  simp [Link.beginReply, held]
theorem Link.beginReject_of_held {l : Link} (held : l.mayBegin = false) : l.beginReject = l := by
  simp [Link.beginReject, held]

theorem Link.beginReply_of_reply {l : Link} {fresh : Bool} {frame : List Byte} {rest : List OutItem}
    (may : l.mayBegin = true) (oldest : l.waiting = .reply fresh frame :: rest) :
    l.beginReply =
      { l with waiting := rest, hostOut := some frame, processor := l.processor.afterBegin fresh } := by
  simp only [Link.beginReply, may, oldest, if_true]

/-- What is oldest and no reply is not begun as one. -/
theorem Link.beginReply_of_other {l : Link} (other : ∀ fresh frame rest, l.waiting ≠ .reply fresh frame :: rest) :
    l.beginReply = l := by
  unfold Link.beginReply
  split
  · split
    · next waiting => exact absurd waiting (other _ _ _)
    · rfl
    · rfl
  · rfl

/-- What is oldest and no reject is not begun as one. -/
theorem Link.beginReject_of_other {l : Link} (other : ∀ r rest, l.waiting ≠ .reject r :: rest) :
    l.beginReject = l := by
  unfold Link.beginReject
  split
  · split
    · next waiting => exact absurd waiting (other _ _)
    · rfl
    · rfl
  · rfl

theorem State.deliver_of_no_grant {s : State} (held : s.link.grantsNotice = false) : s.deliver = s := by
  simp [State.deliver, held]

theorem Link.grantsNotice_iff (l : Link) :
    l.grantsNotice = true ↔ l.helloOwed = none ∧ l.waiting = [] ∧ l.processor ≠ .restartReplyOnLine := by
  simp [Link.grantsNotice, and_assoc]

/-- R154, R159: beginning a fresh reply frees the processor, or leaves the line to the restart. -/
theorem Processor.afterBegin_eq {p : Processor} (notOnLine : p ≠ .restartReplyOnLine) (fresh : Bool) :
    p.afterBegin fresh =
      if fresh = false then p else if p = .restartReplyWaiting then .restartReplyOnLine else .free := by
  cases fresh with
  | false => rfl
  | true => cases p <;> first | rfl | exact absurd rfl notOnLine

/-- While the line is owed to a HELLO or is the RESTART reply's, no other frame is begun. -/
theorem exec_begin_of_held {s : State} (held : s.link.helloOwed ≠ none ∨ s.link.processor = .restartReplyOnLine) :
    exec .replyBegin s = .next s ∧ exec .rejectBegin s = .next s ∧ exec .noticeDelivery s = .next s := by
  have may : s.link.mayBegin = false := by
    rw [Bool.eq_false_iff, ne_eq, Link.mayBegin_iff]
    exact fun ⟨noHello, notOnLine⟩ => held.elim (· noHello) notOnLine
  have grant : s.link.grantsNotice = false := by
    rw [Bool.eq_false_iff, ne_eq, Link.grantsNotice_iff]
    exact fun ⟨noHello, _, notOnLine⟩ => held.elim (· noHello) notOnLine
  rw [exec_replyBegin, exec_rejectBegin, exec_noticeDelivery, Link.beginReply_of_held may, Link.beginReject_of_held may,
    State.deliver_of_no_grant grant]
  exact ⟨rfl, rfl, rfl⟩

/-- Settles O25: by what the line is owed to, and then by the oldest frame that waits. -/
theorem theArbiterBeginsTheOldestFrame : Obligations.TheArbiterBeginsTheOldestFrame := by
  refine ⟨fun s cause owed => ?hello, fun s noHello => ⟨?none, fun onLine => ?onLine, fun notOnLine => ?oldest,
    fun empty => ?empty, fun waits => ?notice⟩⟩
  case hello =>
    refine ⟨?_, exec_begin_of_held (.inl (by rw [owed]; nofun))⟩
    rw [exec_helloBegin, Link.beginHello, owed]
    rfl
  case none =>
    rw [exec_helloBegin, Link.beginHello, noHello]
    rfl
  case onLine => exact exec_begin_of_held (.inr onLine)
  case oldest =>
    have may : s.link.mayBegin = true := s.link.mayBegin_iff.mpr ⟨noHello, notOnLine⟩
    refine ⟨fun fresh frame rest oldest => ⟨?_, ?_⟩, fun r rest oldest => ?_⟩
    · rw [exec_rejectBegin, Link.beginReject_of_other (by rw [oldest]; nofun)]
    · rw [exec_replyBegin, Link.beginReply_of_reply may oldest, Processor.afterBegin_eq notOnLine]
      rfl
    · rw [exec_replyBegin, Link.beginReply_of_other (by rw [oldest]; nofun)]
      rfl
  case empty =>
    rw [exec_replyBegin, exec_rejectBegin, Link.beginReply_of_other (by rw [empty]; nofun),
      Link.beginReject_of_other (by rw [empty]; nofun)]
    exact ⟨rfl, rfl⟩
  case notice =>
    have grant : s.link.grantsNotice = false := by
      rw [Bool.eq_false_iff, ne_eq, Link.grantsNotice_iff]
      exact fun ⟨_, empty, _⟩ => waits empty
    rw [exec_noticeDelivery, State.deliver_of_no_grant grant]

/-! ### ENGINE_STATUS (R122) -/

theorem exec_engineStatus (s : State) :
    exec .engineStatus s = .next (s.request 0x07 parseNone doEngineStatus) := rfl

/-- The standing's code, from the larger count. -/
theorem standingByte_standingOf (count : Nat) :
    standingByte (standingOf count) = if count ≤ 63 then 0 else if count ≤ 111 then 1 else 2 := by
  unfold standingOf
  split
  · rfl
  · split <;> rfl

/-- Settles O29: ENGINE_STATUS has no effect but its reply; the standing and the tag are shown as they stand. -/
theorem engineStatusChangesNothing : Obligations.EngineStatusChangesNothing := by
  intro s r taken kind body e
  have parsed : parseNone r.body = .ok () := by rw [body]; rfl
  have effect : doEngineStatus () s.dropRequest = (s.dropRequest, .ok (engineBytes s.engine)) := rfl
  rw [exec_engineStatus, State.request_ok taken kind parsed effect]
  simp only [engineBytes, Engine.standing, standingByte_standingOf]
  cases tag : s.engine.lastFault.tag with
  | none => rfl
  | some t => rfl

/-! ### The end of a frame (R65 to R69) -/

theorem Reasons.isEmpty_iff_eq_empty (r : Reasons) : r.isEmpty = true ↔ r = .empty := by
  obtain ⟨send, answer, query⟩ := r
  simp [Reasons.isEmpty, Reasons.empty]
  exact and_assoc

/-- Settles O54: by DRAINING, then the abort mark, then the again mark. -/
theorem frameEndSettlesLifeAndMarks : Obligations.FrameEndSettlesLifeAndMarks := by
  intro x empty
  refine ⟨fun draining => ?_, fun enabled abort => ?_, fun enabled abort again => ?_, fun enabled abort again => ?_⟩
  · exact if_pos draining
  · rw [Slot.endFrame, if_neg (by rw [enabled]; nofun), if_pos abort]
    rfl
  · rw [Slot.endFrame, if_neg (by rw [enabled]; nofun), if_neg (by rw [abort]; nofun), if_pos again]
    by_cases publish : x.cfg.role = .publish
    · simp only [Slot.againReason, if_pos publish, Reasons.add]
    · simp only [Slot.againReason, if_neg publish, Reasons.add]
  · rw [Slot.endFrame, if_neg (by rw [enabled]; nofun), if_neg (by rw [abort]; nofun), if_neg (by rw [again]; nofun)]
    by_cases none : x.reasons = empty
    · rw [if_pos ((Reasons.isEmpty_iff_eq_empty _).mpr none), if_pos none]
    · rw [if_neg (mt (Reasons.isEmpty_iff_eq_empty _).mp none), if_neg none]

end Sys2Proof.Machine
end

section
/-! PROOFS. The host's requests in common: a body that is refused, and the one answer (08_the_host_link.md, R154,
R156). -/

namespace Sys2Proof.Machine

-- The declarations are elaborated in turn: one thread does for the whole file.
set_option Elab.async false

/-! ### When a field's bytes are in range (R146) -/

theorem slotOf_isSome (b : Byte) : (slotOf b).isSome = decide (b.toNat ≤ 23) := by revert b; decide
theorem flagOf_isSome (b : Byte) : (flagOf b).isSome = decide (b.toNat ≤ 1) := by revert b; decide
theorem roleOf_isSome (b : Byte) : (roleOf b).isSome = decide (b.toNat ≤ 2) := by revert b; decide
theorem matchOf_isSome (b : Byte) : (matchOf b).isSome = decide (b.toNat ≤ 2) := by revert b; decide
theorem modeOf_isSome (b : Byte) : (modeOf b).isSome = decide (b.toNat ≤ 2) := by revert b; decide
theorem rateOf_isSome (b : Byte) : (rateOf b).isSome = decide (b.toNat ≤ 5) := by revert b; decide
theorem retryOf_isSome (b : Byte) : (retryOf b).isSome = decide (b.toNat ≤ 15) := by revert b; decide
theorem samplePointOf_isSome (b : Byte) :
    (samplePointOf b).isSome = [60, 65, 70, 75, 80, 85].contains b.toNat := by revert b; decide
theorem windowOf_isSome (b : Byte) : (windowOf b).isSome = (decide (b.toNat ≤ 8) || b.toNat == 0xFF) := by
  revert b; decide
theorem slotOrNoneOf_isSome (b : Byte) : (slotOrNoneOf b).isSome = (decide (b.toNat ≤ 23) || b.toNat == 0xFF) := by
  revert b; decide
theorem isSome_ite_some {α : Type} {p : Prop} [Decidable p] (a : α) :
    (if p then some a else none).isSome = decide p := by
  by_cases h : p <;> simp [h]

theorem intervalOf_isSome (a b : Byte) : (intervalOf a b).isSome = decide (a.toNat * 256 + b.toNat ≤ 60000) :=
  isSome_ite_some _

theorem roleOf_eq_publish {b : Byte} {role : Role} (read : roleOf b = some role) :
    decide (role = .publish) = (b.toNat == 1) := by
  revert b; cases role <;> decide

/-- R3: a length is in range for its role. -/
theorem lengthOf_isSome {r : Byte} {role : Role} (read : roleOf r = some role) (b : Byte) :
    (lengthOf role b).isSome = (decide (b.toNat ≤ 16) || (b.toNat == 0xFF && r.toNat != 1)) := by
  rw [bne, ← roleOf_eq_publish read]
  revert b; cases role <;> decide

/-! ### The fields in body order (R154) -/

/-- A parser from field `k` on refuses a body at the first of the fields that is out of range. -/
def RefusesFrom {α : Type} (k : Nat) (inRange : List Bool) (parsed : Except Reply α) : Prop :=
  ∀ i, inRange[i]? = some false → (∀ j, j < i → inRange[j]? = some true) → parsed = .error (.badValue (k + i))

theorem RefusesFrom.nil {α : Type} (k : Nat) (parsed : Except Reply α) : RefusesFrom k [] parsed := by
  intro i out
  simp at out

/-- A field of which every value is in range. -/
theorem RefusesFrom.free {α : Type} {k : Nat} {inRange : List Bool} {parsed : Except Reply α}
    (later : RefusesFrom (k + 1) inRange parsed) : RefusesFrom k (true :: inRange) parsed := by
  intro i out before
  cases i with
  | zero => simp at out
  | succ i =>
    rw [later i out fun j less => before (j + 1) (Nat.succ_lt_succ less)]
    congr 2; omega

/-- A field that is read, and then the others. -/
theorem RefusesFrom.read {α β : Type} {k : Nat} {b : Bool} {inRange : List Bool} {value : Option α}
    {next : α → Except Reply β} (range : value.isSome = b)
    (later : ∀ a, value = some a → RefusesFrom (k + 1) inRange (next a)) :
    RefusesFrom k (b :: inRange) (field k value >>= next) := by
  cases value with
  | none =>
    subst range
    intro i out before
    cases i with
    | zero => rfl
    | succ i => simpa using before 0 (Nat.succ_pos i)
  | some a =>
    subst range
    exact RefusesFrom.free (later a rfl)

theorem RefusesFrom.last {α : Type} {k : Nat} {b : Bool} {value : Option α} (range : value.isSome = b) :
    RefusesFrom k [b] (field k value) := by
  have chain : field k value = field k value >>= pure := by cases value <;> rfl
  rw [chain]
  exact .read range fun _ _ => .nil _ _

/-- R154: the length first, then the fields in body order. -/
structure RefusesBad {α : Type} (c : Instr) (body : List Byte) (parsed : Except Reply α) : Prop where
  length : bodyLengthOk c body = false → parsed = badLength
  fields : bodyLengthOk c body = true → RefusesFrom 0 (fieldsInRange c body) parsed

/-- A body of a good length. -/
theorem RefusesBad.of_length {α : Type} {c : Instr} {body : List Byte} {parsed : Except Reply α}
    (good : bodyLengthOk c body = true) (fields : RefusesFrom 0 (fieldsInRange c body) parsed) :
    RefusesBad c body parsed :=
  ⟨fun bad => absurd (good.symm.trans bad) nofun, fun _ => fields⟩

/-- A body of another length. -/
theorem RefusesBad.of_bad_length {α : Type} {c : Instr} {body : List Byte} (bad : bodyLengthOk c body = false) :
    RefusesBad (α := α) c body badLength :=
  ⟨fun _ => rfl, fun good => absurd (good.symm.trans bad) nofun⟩

/-! ### The parsers -/

theorem parseNone_refuses {c : Instr} (length : ∀ body, bodyLengthOk c body = decide (body.length = 0))
    (fields : ∀ body, fieldsInRange c body = []) (body : List Byte) : RefusesBad c body (parseNone body) := by
  cases body with
  | nil => exact .of_length (by rw [length]; rfl) (by rw [fields]; exact .nil _ _)
  | cons b body => exact .of_bad_length (by rw [length]; rfl)

/-- A body that is one byte, of one field. -/
theorem refuses_of_one_byte {α : Type} {c : Instr} {parse : List Byte → Except Reply α} {value : Byte → Option α}
    (parses : ∀ body, parse body = match body with
      | [b] => field 0 (value b)
      | _ => badLength)
    (length : ∀ body, bodyLengthOk c body = decide (body.length = 1))
    (fields : ∀ b, fieldsInRange c [b] = [(value b).isSome]) (body : List Byte) : RefusesBad c body (parse body) := by
  match body with
  | [] => rw [parses]; exact .of_bad_length (by rw [length]; rfl)
  | [b] => rw [parses]; exact .of_length (by rw [length]; rfl) (by rw [fields]; exact .last rfl)
  | b :: d :: body => rw [parses]; exact .of_bad_length (by rw [length]; simp)

theorem parseSlot_refuses {c : Instr} (length : ∀ body, bodyLengthOk c body = decide (body.length = 1))
    (fields : ∀ b, fieldsInRange c [b] = [decide (b.toNat ≤ 23)]) (body : List Byte) :
    RefusesBad c body (parseSlot body) :=
  refuses_of_one_byte (fun _ => rfl) length (fun b => by rw [fields, slotOf_isSome]) body

theorem parseFlag_refuses {c : Instr} (length : ∀ body, bodyLengthOk c body = decide (body.length = 1))
    (fields : ∀ b, fieldsInRange c [b] = [decide (b.toNat ≤ 1)]) (body : List Byte) :
    RefusesBad c body (parseFlag body) :=
  refuses_of_one_byte (fun _ => rfl) length (fun b => by rw [fields, flagOf_isSome]) body

theorem parseMode_refuses (body : List Byte) : RefusesBad .setMode body (parseMode body) :=
  refuses_of_one_byte (fun _ => rfl) (fun _ => rfl) (fun b => by rw [modeOf_isSome]; rfl) body

theorem parseTiming_refuses (body : List Byte) : RefusesBad .setTiming body (parseTiming body) := by
  by_cases good : body.length = 2
  · match body, good with
    | [r, p], _ =>
      exact .of_length rfl (.read (rateOf_isSome r) fun _ _ => .read (samplePointOf_isSome p) fun _ _ => .nil _ _)
  · unfold parseTiming
    split
    · simp at good
    · exact .of_bad_length (by simpa [bodyLengthOk] using good)

theorem parseMasks_refuses (body : List Byte) : RefusesBad .setMasks body (parseMasks body) := by
  by_cases good : body.length = 6
  · match body, good with
    | [a2, a1, a0, b2, b1, b0], _ => exact .of_length rfl (.nil _ _)
  · unfold parseMasks
    split
    · simp at good
    · exact .of_bad_length (by simpa [bodyLengthOk] using good)

theorem parseConfig_refuses (body : List Byte) : RefusesBad .configSlot body (parseConfig body) := by
  by_cases good : body.length = 12
  · match body, good with
    | [n, r, t2, t1, t0, m, l, i1, i0, k, a, y], _ =>
      exact .of_length rfl <|
        .read (slotOf_isSome n) fun _ _ => .read (roleOf_isSome r) fun _ role => .free <|
        .read (matchOf_isSome m) fun _ _ => .read (lengthOf_isSome role l) fun _ _ =>
        .read (intervalOf_isSome i1 i0) fun _ _ => .read (retryOf_isSome k) fun _ _ =>
        .read (flagOf_isSome a) fun _ _ => .read (flagOf_isSome y) fun _ _ => .nil _ _
  · unfold parseConfig
    split
    · simp at good
    · exact .of_bad_length (by simpa [bodyLengthOk] using good)

theorem parseWrite_refuses (body : List Byte) : RefusesBad .writeSlot body (parseWrite body) := by
  match body with
  | [] => exact .of_bad_length rfl
  | [_] => exact .of_bad_length rfl
  | [_, _] => exact .of_bad_length rfl
  | n :: f :: l :: payload =>
    by_cases exact : payload.length = l.toNat
    · refine .of_length (by simp [bodyLengthOk, exact]; omega) ?_
      rw [parseWrite, if_pos exact]
      exact .read (slotOf_isSome n) fun _ _ => .read (flagOf_isSome f) fun _ _ =>
        .read (isSome_ite_some payload) fun _ _ => .nil _ _
    · rw [parseWrite, if_neg exact]
      exact .of_bad_length (by simp [bodyLengthOk]; omega)

theorem parseRead_refuses (body : List Byte) : RefusesBad .readSlot body (parseRead body) := by
  by_cases good : body.length = 2
  · match body, good with
    | [n, c], _ =>
      exact .of_length rfl (.read (slotOf_isSome n) fun _ _ => .read (flagOf_isSome c) fun _ _ => .nil _ _)
  · unfold parseRead
    split
    · simp at good
    · exact .of_bad_length (by simpa [bodyLengthOk] using good)

theorem parseCatch_refuses (body : List Byte) : RefusesBad .setCatch body (parseCatch body) := by
  by_cases good : body.length = 8
  · match body, good with
    | [e, m2, m1, m0, p2, p1, p0, f], _ =>
      exact .of_length rfl <|
        .read (flagOf_isSome e) fun _ _ => .free <| .free <| .read (flagOf_isSome f) fun _ _ => .nil _ _
  · unfold parseCatch
    split
    · simp at good
    · exact .of_bad_length (by simpa [bodyLengthOk] using good)

theorem parseNoticeControl_refuses (body : List Byte) :
    RefusesBad .noticeControl body (parseNoticeControl body) := by
  by_cases good : body.length = 7
  · match body, good with
    | [g, st, tc, bf, c, n, y], _ =>
      exact .of_length rfl <|
        .read (flagOf_isSome g) fun _ _ => .read (flagOf_isSome st) fun _ _ => .read (flagOf_isSome tc) fun _ _ =>
        .read (flagOf_isSome bf) fun _ _ => .read (flagOf_isSome c) fun _ _ =>
        .read (slotOrNoneOf_isSome n) fun _ _ => .read (flagOf_isSome y) fun _ _ => .nil _ _
  · unfold parseNoticeControl
    split
    · simp at good
    · exact .of_bad_length (by simpa [bodyLengthOk] using good)

theorem parseAck_refuses (body : List Byte) : RefusesBad .ackNotices body (parseAck body) := by
  cases body with
  | nil => exact .of_bad_length rfl
  | cons w numbers =>
    by_cases some : 1 ≤ numbers.length ∧ numbers.length ≤ 8
    · rw [parseAck, if_pos some]
      have good : bodyLengthOk .ackNotices (w :: numbers) = true := by
        simp only [bodyLengthOk, List.length_cons, Bool.and_eq_true, decide_eq_true_eq]; omega
      exact .of_length good (.read (windowOf_isSome w) fun _ _ => .nil _ _)
    · rw [parseAck, if_neg some]
      have bad : bodyLengthOk .ackNotices (w :: numbers) = false := by
        simp only [bodyLengthOk, List.length_cons, Bool.and_eq_false_iff, decide_eq_false_iff_not]; omega
      exact .of_bad_length bad

/-! ### A body refused (R154) -/

theorem State.request_refuses {α : Type} {s : State} {r : Request} {c : Instr} {code : Byte}
    {parse : List Byte → Except Reply α} {run : α → State → State × Reply} {after : Processor} (taken : s.Takes r)
    (kind : r.kind = code) (refuses : RefusesBad c r.body (parse r.body)) :
    (bodyLengthOk c r.body = false → s.request code parse run after = s.answered r (.refused .badLength)) ∧
    (∀ i, bodyLengthOk c r.body = true → (fieldsInRange c r.body)[i]? = some false →
      (∀ j, j < i → (fieldsInRange c r.body)[j]? = some true) →
      s.request code parse run after = s.answered r (.badValue i)) := by
  rw [State.request_of_takes taken kind]
  refine ⟨fun bad => State.carryOut_error (refuses.length bad), fun i good out before => State.carryOut_error ?_⟩
  have bad := refuses.fields good i out before
  rwa [Nat.zero_add] at bad

/-- Settles O17: by the parser of each request. -/
theorem badBodiesAreRefused : Obligations.BadBodiesAreRefused := by
  intro c code s r request taken kind
  have refused {α : Type} {parse : List Byte → Except Reply α} {run : α → State → State × Reply} {after : Processor}
      (command : exec c s = .next (s.request code parse run after)) (refuses : RefusesBad c r.body (parse r.body)) :
      (bodyLengthOk c r.body = false → exec c s = .next (s.answered r (.refused .badLength))) ∧
      (∀ i, bodyLengthOk c r.body = true → (fieldsInRange c r.body)[i]? = some false →
        (∀ j, j < i → (fieldsInRange c r.body)[j]? = some true) → exec c s = .next (s.answered r (.badValue i))) := by
    rw [command]
    obtain ⟨length, fields⟩ := State.request_refuses (run := run) (after := after) taken kind refuses
    exact ⟨fun bad => by rw [length bad], fun i good out before => by rw [fields i good out before]⟩
  cases c with
  | identify => cases request; exact refused rfl (parseNone_refuses (fun _ => rfl) (fun _ => rfl) _)
  | restart => cases request; exact refused rfl (parseNone_refuses (fun _ => rfl) (fun _ => rfl) _)
  | setTiming => cases request; exact refused rfl (parseTiming_refuses _)
  | setMode => cases request; exact refused rfl (parseMode_refuses _)
  | goOnline => cases request; exact refused rfl (parseNone_refuses (fun _ => rfl) (fun _ => rfl) _)
  | goOffline => cases request; exact refused rfl (parseNone_refuses (fun _ => rfl) (fun _ => rfl) _)
  | engineStatus => cases request; exact refused rfl (parseNone_refuses (fun _ => rfl) (fun _ => rfl) _)
  | diagCounts => cases request; exact refused rfl (parseFlag_refuses (fun _ => rfl) (fun _ => rfl) _)
  | setMasks => cases request; exact refused rfl (parseMasks_refuses _)
  | configSlot => cases request; exact refused rfl (parseConfig_refuses _)
  | enableSlot => cases request; exact refused rfl (parseSlot_refuses (fun _ => rfl) (fun _ => rfl) _)
  | disableSlot => cases request; exact refused rfl (parseSlot_refuses (fun _ => rfl) (fun _ => rfl) _)
  | writeSlot => cases request; exact refused rfl (parseWrite_refuses _)
  | readSlot => cases request; exact refused rfl (parseRead_refuses _)
  | sendSlot => cases request; exact refused rfl (parseSlot_refuses (fun _ => rfl) (fun _ => rfl) _)
  | querySlot => cases request; exact refused rfl (parseSlot_refuses (fun _ => rfl) (fun _ => rfl) _)
  | abortSlot => cases request; exact refused rfl (parseSlot_refuses (fun _ => rfl) (fun _ => rfl) _)
  | setCatch => cases request; exact refused rfl (parseCatch_refuses _)
  | takeCatch => cases request; exact refused rfl (parseFlag_refuses (fun _ => rfl) (fun _ => rfl) _)
  | noticeControl => cases request; exact refused rfl (parseNoticeControl_refuses _)
  | ackNotices => cases request; exact refused rfl (parseAck_refuses _)
  | resyncNotices => cases request; exact refused rfl (parseNone_refuses (fun _ => rfl) (fun _ => rfl) _)
  | _ => cases request

end Sys2Proof.Machine
end

section
/-! PROOFS. The one answer to a request that is taken, and what a refusal leaves (08_the_host_link.md, R154, R156). -/

namespace Sys2Proof.Machine

-- The declarations are elaborated in turn: one thread does for the whole file.
set_option Elab.async false

/-! ### What a request's effect leaves of the link, and what a refusal changes -/

/-- A reply that refuses its request. -/
def Reply.refuses : Reply → Bool
  | .refused _ | .badValue _ => true
  | _ => false

/-- A reply that has nothing to do. -/
def Reply.idle : Reply → Bool
  | .nothingToDo _ => true
  | _ => false

/-- What a request's effect is held to in state `s`, its request already out of the inbox: of the link the counters
alone may change; a refusal changes nothing, and NOTHING_TO_DO nothing where `still` holds. -/
structure State.Effect (s : State) (still : Prop) (result : State × Reply) : Prop where
  link : ∃ k, result.1.link = { s.link with counters := k }
  refusal : result.2.refuses = true → result.1 = s
  idle : still → result.2.idle = true → result.1 = s

section
variable {s t : State} {still : Prop}

theorem State.Effect.unchanged (rep : Reply) : s.Effect still (s, rep) := ⟨⟨_, rfl⟩, fun _ => rfl, fun _ _ => rfl⟩

theorem State.Effect.ok (fields : List Byte) (link : t.link = s.link) : s.Effect still (t, .ok fields) :=
  ⟨⟨_, link⟩, nofun, nofun⟩

theorem State.Effect.deferred (fields : List Byte) (link : t.link = s.link) : s.Effect still (t, .deferred fields) :=
  ⟨⟨_, link⟩, nofun, nofun⟩

/-! ### The requests, one by one -/

theorem doSetTiming_effect (a : Rate × SamplePoint) : s.Effect still (doSetTiming a s) := by
  unfold doSetTiming
  split
  · exact .ok _ rfl
  · exact .unchanged _

theorem doSetMode_effect (m : Mode) : s.Effect still (doSetMode m s) := by
  unfold doSetMode
  split
  · exact .ok _ rfl
  · exact .unchanged _

theorem doGoOnline_effect (u : Unit) : s.Effect still (doGoOnline u s) := by
  unfold doGoOnline
  split
  · exact .ok _ (State.engineEvent_link ..)
  · exact .ok _ (State.engineEvent_link ..)
  all_goals exact .unchanged _

theorem State.useFree_link (s : State) : s.useFree.link = s.link := by
  unfold State.useFree; split <;> rfl

theorem doGoOffline_effect (u : Unit) : s.Effect still (doGoOffline u s) := by
  unfold doGoOffline
  split
  · split
    · exact .deferred _ ((State.engineEvent_link ..).trans s.useFree_link)
    · exact .ok _ ((State.engineEvent_link ..).trans s.useFree_link)
  · exact .ok _ (State.engineEvent_link ..)
  · exact .ok _ (State.engineEvent_link ..)
  · exact .ok _ (State.engineEvent_link ..)
  · exact .unchanged _
  · exact .unchanged _

theorem doDiagCounts_effect (clear : Bool) : s.Effect still (doDiagCounts clear s) := by
  cases clear with
  | false => exact .ok _ rfl
  | true => exact ⟨⟨.zero, rfl⟩, nofun, nofun⟩

theorem doConfigSlot_effect (a : SlotNo × SlotConfig) : s.Effect still (doConfigSlot a s) := by
  unfold doConfigSlot
  split
  · exact .unchanged _
  · exact .unchanged _
  · exact .ok _ rfl

theorem doEnableSlot_effect (n : SlotNo) : s.Effect still (doEnableSlot n s) := by
  unfold doEnableSlot
  split
  · exact .unchanged _
  · split
    · exact .unchanged _
    · split
      · exact .unchanged _
      · exact .unchanged _
      · exact .ok _ rfl

theorem doDisableSlot_effect (n : SlotNo) : s.Effect still (doDisableSlot n s) := by
  unfold doDisableSlot
  split
  · exact .unchanged _
  · exact .unchanged _
  · split
    · exact .deferred _ rfl
    · exact .ok _ rfl

theorem doWriteSlot_effect (a : SlotNo × Bool × List Byte) : s.Effect still (doWriteSlot a s) := by
  simp only [doWriteSlot]
  split
  · exact .unchanged _
  · split
    · exact .unchanged _
    · split
      · exact .unchanged _
      · split
        · exact .unchanged _
        · exact .ok _ rfl

theorem doReadSlot_effect (a : SlotNo × Bool) : s.Effect still (doReadSlot a s) := by
  refine .ok _ ?_
  split <;> rfl

/-- A slot given the record it holds. -/
theorem State.setSlot_self (s : State) (n : SlotNo) : s.setSlot n (s.slot n) = s := by
  have same : s.slots.set n (s.slot n) = s.slots := Vector.set_getElem_self n.isLt
  unfold State.setSlot State.setSlots
  rw [same]

theorem Slot.want_of_idle {x : Slot} (idle : x.tx = .idle) (r : Reason) :
    x.want r = { x with reasons := x.reasons.add r, tx := .pending } := by
  cases x; cases idle; rfl

theorem Slot.want_of_pending {x : Slot} (pending : x.tx = .pending) (r : Reason) :
    x.want r = { x with reasons := x.reasons.add r } := by
  cases x; cases pending; rfl

/-- R47: an ANSWER cannot arrive at an ON_BUS slot; the other reasons set the again mark. -/
theorem Slot.want_of_onBus {x : Slot} (onBus : x.tx = .onBus) {r : Reason} (other : r ≠ .answer) :
    x.want r = { x with again := true } := by
  cases x; cases onBus
  cases r with
  | answer => exact absurd rfl other
  | send => rfl
  | query => rfl

theorem Slot.want_of_marked {x : Slot} (onBus : x.tx = .onBus) (again : x.again = true) {r : Reason}
    (other : r ≠ .answer) : x.want r = x := by
  rw [Slot.want_of_onBus onBus other, ← again]

/-- R48, R49: with nothing to do, the reason is there already, or the again mark is. -/
theorem askReason_effect {role : Role} {reason : Reason} (n : SlotNo)
    (there : still → (s.slot n).tx = .pending → (s.slot n).cfg.role = role → (s.slot n).reasons.add reason = (s.slot n).reasons)
    (mark : (s.slot n).tx = .onBus → (s.slot n).again = true → (s.slot n).want reason = s.slot n) :
    s.Effect still (askReason role reason n s) := by
  simp only [askReason]
  split
  · exact .unchanged _
  · exact .unchanged _
  · split
    · exact .unchanged _
    · next role =>
      split
      · exact .ok _ rfl
      · next pending =>
        refine ⟨⟨_, rfl⟩, nofun, fun stands _ => ?_⟩
        have same : (s.slot n).want reason = s.slot n := by
          rw [Slot.want_of_pending pending, there stands pending (Classical.not_not.mp role)]
        exact (congrArg (s.setSlot n) same).trans (s.setSlot_self n)
      · next onBus =>
        split
        · next again =>
          rw [mark onBus again, s.setSlot_self]
          exact .unchanged _
        · exact .ok _ rfl

theorem doSendSlot_effect (n : SlotNo) : s.Effect False (doSendSlot n s) :=
  askReason_effect n nofun fun onBus again => Slot.want_of_marked onBus again nofun

/-- R49: a PENDING subscribe slot holds QUERY. -/
theorem doQuerySlot_effect (n : SlotNo) : s.Effect s.SlotsSound (doQuerySlot n s) := by
  refine askReason_effect n (fun ⟨slots, _⟩ pending role => ?_) fun onBus again => Slot.want_of_marked onBus again nofun
  obtain ⟨-, -, ⟨-, -, -, idle, -, alone, -⟩, -⟩ := slots n
  obtain ⟨noSend, noAnswer⟩ := alone (by rw [role]; nofun)
  have some : (s.slot n).reasons.query = true := by
    refine Classical.byContradiction fun none => ?_
    have empty : (s.slot n).reasons.isEmpty = true :=
      (Reasons.isEmpty_iff _).mpr ⟨noSend, noAnswer, by simpa using none⟩
    rw [← idle, pending] at empty
    cases empty
  rw [Reasons.add, ← some]

theorem doAbortSlot_effect (n : SlotNo) : s.Effect still (doAbortSlot n s) := by
  simp only [doAbortSlot]
  split
  · exact .ok _ rfl
  · split
    · exact .unchanged _
    · exact .deferred _ rfl
  all_goals exact .unchanged _

theorem doTakeCatch_effect (peek : Bool) : s.Effect still (doTakeCatch peek s) := by
  unfold doTakeCatch
  split
  · exact .unchanged _
  · split
    · exact .unchanged _
    · exact .ok _ rfl

theorem doNoticeControl_effect (a : NoticeSetting) : s.Effect still (doNoticeControl a s) := by
  simp only [doNoticeControl]
  split
  · exact .ok _ rfl
  · split
    · exact .unchanged _
    · exact .ok _ rfl

end

/-! ### The one answer (R154, R156) -/

/-- What O16 says of a request taken: one next state, the reply stored and queued; a refusal, and NOTHING_TO_DO where
`still` holds, changes nothing else. -/
def State.AnsweredOnce (s : State) (still : Prop) (r : Request) (out : Out) : Prop :=
  ∃ t rep, out = .next t ∧ t.link.inbox = s.link.inbox.tail ∧
    t.link.history = historyPut s.link.history { seq := r.seq, kind := r.kind, frame := replyFrame r rep } ∧
    t.link.waiting = s.link.waiting ++ [.reply true (replyFrame r rep)] ∧ t.link.processor ≠ .free ∧
    ((∃ e, rep = .refused e) ∨ (∃ i, rep = .badValue i) → t = s.answered r rep) ∧
    ((∃ f, rep = .nothingToDo f) → still → t = s.answered r rep)

theorem State.answered_answeredOnce (s : State) (still : Prop) (r : Request) (rep : Reply) :
    s.AnsweredOnce still r (.next (s.answered r rep)) :=
  ⟨_, rep, rfl, rfl, rfl, rfl, nofun, fun _ => rfl, fun _ _ => rfl⟩

/-- A request whose processor waits for its own reply afterwards. -/
theorem State.request_answeredOnce {α : Type} {s : State} {r : Request} {code : Byte}
    {parse : List Byte → Except Reply α} {run : α → State → State × Reply} {still : Prop} (taken : s.Takes r)
    (kind : r.kind = code) (effect : ∀ a, s.dropRequest.Effect still (run a s.dropRequest)) :
    s.AnsweredOnce still r (.next (s.request code parse run)) := by
  rw [State.request_of_takes taken kind]
  cases parsed : parse r.body with
  | error rep =>
    rw [State.carryOut_error parsed]
    exact s.answered_answeredOnce still r rep
  | ok a =>
    obtain ⟨⟨k, link⟩, refusal, idle⟩ := effect a
    have answered : (run a s.dropRequest).1 = s.dropRequest →
        s.carryOut r parse run .replyWaiting = s.answered r (run a s.dropRequest).2 := fun same =>
      State.carryOut_ok parsed (Prod.ext same rfl)
    have state : s.carryOut r parse run .replyWaiting =
        (run a s.dropRequest).1.finish r (run a s.dropRequest).2 .replyWaiting := by
      simp only [State.carryOut, parsed]
    refine ⟨_, (run a s.dropRequest).2, rfl, ?_, ?_, ?_, ?_, fun refused => answered (refusal ?_),
      fun ⟨f, nothing⟩ stands => answered (idle stands ?_)⟩
    · rw [state, State.finish, State.setLink_link, Link.answer, link]; rfl
    · rw [state, State.finish, State.setLink_link, Link.answer, link]; rfl
    · rw [state, State.finish, State.setLink_link, Link.answer, link]; rfl
    · rw [state]; nofun
    · rcases refused with ⟨e, rep⟩ | ⟨i, rep⟩ <;> rw [rep] <;> rfl
    · rw [nothing]; rfl

/-- RESTART is answered OK and does nothing else, but that its processor waits for the line of its reply. -/
theorem State.restart_answeredOnce {s : State} {r : Request} {still : Prop} (taken : s.Takes r) (kind : r.kind = 0x02) :
    s.AnsweredOnce still r (exec .restart s) := by
  rw [exec_restart, State.request_of_takes taken kind]
  cases parsed : parseNone r.body with
  | error rep =>
    rw [State.carryOut_error parsed]
    exact s.answered_answeredOnce still r rep
  | ok a =>
    rw [State.carryOut, parsed]
    refine ⟨_, .ok [], rfl, rfl, rfl, rfl, nofun, ?_, ?_⟩
    · rintro (⟨_, ⟨⟩⟩ | ⟨_, ⟨⟩⟩)
    · rintro ⟨_, ⟨⟩⟩

/-- Where O16 says that NOTHING_TO_DO changes nothing. -/
def State.StaysStill (s : State) (c : Instr) : Prop := c ≠ .sendSlot ∧ (c = .querySlot → s.SlotsSound)

theorem exec_answeredOnce {c : Instr} {code : Byte} {s : State} {r : Request} (request : requestCode c = some code)
    (taken : s.Takes r) (kind : r.kind = code) : s.AnsweredOnce (s.StaysStill c) r (exec c s) := by
  cases c with
  | identify => cases request; exact State.request_answeredOnce taken kind fun _ => .unchanged _
  | restart => cases request; exact State.restart_answeredOnce taken kind
  | setTiming => cases request; exact State.request_answeredOnce taken kind doSetTiming_effect
  | setMode => cases request; exact State.request_answeredOnce taken kind doSetMode_effect
  | goOnline => cases request; exact State.request_answeredOnce taken kind doGoOnline_effect
  | goOffline => cases request; exact State.request_answeredOnce taken kind doGoOffline_effect
  | engineStatus => cases request; exact State.request_answeredOnce taken kind fun _ => .unchanged _
  | diagCounts => cases request; exact State.request_answeredOnce taken kind doDiagCounts_effect
  | setMasks => cases request; exact State.request_answeredOnce taken kind fun _ => .ok _ rfl
  | configSlot => cases request; exact State.request_answeredOnce taken kind doConfigSlot_effect
  | enableSlot => cases request; exact State.request_answeredOnce taken kind doEnableSlot_effect
  | disableSlot => cases request; exact State.request_answeredOnce taken kind doDisableSlot_effect
  | writeSlot => cases request; exact State.request_answeredOnce taken kind doWriteSlot_effect
  | readSlot => cases request; exact State.request_answeredOnce taken kind doReadSlot_effect
  | sendSlot =>
    cases request
    refine State.request_answeredOnce taken kind fun n => ?_
    obtain ⟨link, refusal, -⟩ := doSendSlot_effect (s := s.dropRequest) n
    exact ⟨link, refusal, fun ⟨other, _⟩ => absurd rfl other⟩
  | querySlot =>
    cases request
    refine State.request_answeredOnce taken kind fun n => ?_
    obtain ⟨link, refusal, idle⟩ := doQuerySlot_effect (s := s.dropRequest) n
    exact ⟨link, refusal, fun ⟨_, sound⟩ => idle (sound rfl)⟩
  | abortSlot => cases request; exact State.request_answeredOnce taken kind doAbortSlot_effect
  | setCatch => cases request; exact State.request_answeredOnce taken kind fun _ => .ok _ rfl
  | takeCatch => cases request; exact State.request_answeredOnce taken kind doTakeCatch_effect
  | noticeControl => cases request; exact State.request_answeredOnce taken kind doNoticeControl_effect
  | ackNotices => cases request; exact State.request_answeredOnce taken kind fun _ => .ok _ rfl
  | resyncNotices => cases request; exact State.request_answeredOnce taken kind fun _ => .ok _ rfl
  | _ => cases request

/-- A command whose request is not the next one does nothing. -/
theorem exec_of_other {c : Instr} {code : Byte} {s : State} (request : requestCode c = some code)
    (other : ∀ r, s.Takes r → r.kind ≠ code) : exec c s = .next s := by
  cases c <;> cases request <;> exact congrArg _ (State.request_of_other other)

/-- Settles O16: each request's effect is held to what a refusal and NOTHING_TO_DO may change. -/
theorem everyRequestTakenIsAnsweredOnce : Obligations.EveryRequestTakenIsAnsweredOnce := by
  intro c code s request
  refine ⟨fun r taken kind => ?_, exec_of_other request⟩
  obtain ⟨t, rep, run, inbox, history, waiting, processor, refusal, idle⟩ := exec_answeredOnce request taken kind
  exact ⟨t, rep, run, inbox, history, waiting, processor, refusal,
    fun nothing noSend sound => idle nothing ⟨noSend, sound⟩⟩

end Sys2Proof.Machine
end

section
/-! PROOFS. The bus engine's own events and the host's requests on it (06_the_bus_engine.md). -/

namespace Sys2Proof.Machine

-- The declarations are elaborated in turn: one thread does for the whole file.
set_option Elab.async false

/-! ### An event of the engine (R123) -/

/-- A change of the state, the standing or the bus-stuck flag raises STATE. -/
theorem State.engineEvent_of_changed {s : State} {e : Engine}
    (changed : e.state ≠ s.engine.state ∨ e.standing ≠ s.engine.standing ∨ e.busStuck ≠ s.engine.busStuck) :
    s.engineEvent e = (s.setEngine e).raise .state (.state e.state e.standing e.recoveryOwed e.busStuck) :=
  if_pos changed

theorem State.engineEvent_of_same {s : State} {e : Engine} (state : e.state = s.engine.state)
    (standing : e.standing = s.engine.standing) (busStuck : e.busStuck = s.engine.busStuck) :
    s.engineEvent e = s.setEngine e :=
  if_neg fun changed => changed.elim (· state) fun changed => changed.elim (· standing) (· busStuck)

/-- Where the state and the flag stay, the standing decides. -/
theorem State.engineEvent_of_standing {s : State} {e : Engine} (state : e.state = s.engine.state)
    (busStuck : e.busStuck = s.engine.busStuck) :
    s.engineEvent e =
      if e.standing ≠ s.engine.standing then
        (s.setEngine e).raise .state (.state s.engine.state e.standing e.recoveryOwed s.engine.busStuck)
      else s.setEngine e := by
  split
  · next changed => rw [State.engineEvent_of_changed (.inr (.inl changed)), state, busStuck]
  · next same => exact State.engineEvent_of_same state (Classical.not_not.mp same) busStuck

/-- The engine goes to another state by leaving what it does. -/
theorem State.engineEvent_leave {s : State} {st : EngineState} (other : st ≠ s.engine.state) :
    s.engineEvent (s.engine.leave st) =
      (s.setEngine (s.engine.leave st)).raise .state (.state st s.engine.standing s.engine.recoveryOwed false) :=
  State.engineEvent_of_changed (.inl other)

theorem State.dropRequest_engineEvent (s : State) (e : Engine) :
    s.dropRequest.engineEvent e = (s.engineEvent e).dropRequest := by
  by_cases changed : e.state ≠ s.engine.state ∨ e.standing ≠ s.engine.standing ∨ e.busStuck ≠ s.engine.busStuck
  · rw [State.engineEvent_of_changed changed, State.engineEvent_of_changed (s := s.dropRequest) changed,
      State.dropRequest_setEngine, State.dropRequest_raise]
  · simp only [not_or, Classical.not_not] at changed
    obtain ⟨state, standing, busStuck⟩ := changed
    rw [State.engineEvent_of_same state standing busStuck,
      State.engineEvent_of_same (s := s.dropRequest) state standing busStuck, State.dropRequest_setEngine]

/-! ### GO_ONLINE (R117) -/

theorem exec_goOnline (s : State) : exec .goOnline s = .next (s.request 0x05 parseNone doGoOnline) := rfl

theorem Engine.join_of_owed {e : Engine} (owed : e.recoveryOwed = true ∨ e.state = .withdrawn) :
    e.join = e.leave .recovering := if_pos owed

theorem Engine.join_of_clear {e : Engine} (clear : e.recoveryOwed = false) (offline : e.state = .offline) :
    e.join = if e.mode = .loopback then e.leave .active else e.leave .syncing :=
  if_neg (by rw [clear, offline]; nofun)

/-- Away from the bus GO_ONLINE joins it. -/
theorem doGoOnline_of_away {s : State} (away : s.engine.state = .offline ∨ s.engine.state = .withdrawn) :
    doGoOnline () s = (s.engineEvent s.engine.join, .ok (engineFields s.engine.join)) := by
  rcases away with state | state <;> simp only [doGoOnline, state]

theorem doGoOnline_of_online {s : State}
    (online : s.engine.state = .syncing ∨ s.engine.state = .active ∨ s.engine.state = .recovering) :
    doGoOnline () s = (s, .nothingToDo (engineFields s.engine)) := by
  rcases online with state | state | state <;> simp only [doGoOnline, state]

/-- Settles O27: away from the bus by the mark, the state and the mode; on it there is nothing to do. -/
theorem goOnlineJoinsTheBus : Obligations.GoOnlineJoinsTheBus := by
  intro s r taken kind body e joined joins
  have parsed : parseNone r.body = .ok () := by rw [body]; rfl
  have joinsBy {st : EngineState} (away : e.state = .offline ∨ e.state = .withdrawn) (join : e.join = e.leave st)
      (other : st ≠ e.state) : joins st := by
    have effect : doGoOnline () s.dropRequest = ((s.engineEvent e.join).dropRequest, .ok (engineFields e.join)) := by
      rw [doGoOnline_of_away (s := s.dropRequest) away, State.dropRequest_engine, State.dropRequest_engineEvent]
    rw [join, State.engineEvent_leave other] at effect
    change exec .goOnline s = _
    rw [exec_goOnline, State.request_ok taken kind parsed effect]
    rfl
  refine ⟨fun offline clear mode => ?_, fun offline clear mode => ?_, fun offline owed => ?_, fun withdrawn => ?_,
    fun online => ?_, fun stopping => ?_⟩
  · exact joinsBy (.inl offline) ((Engine.join_of_clear clear offline).trans (if_neg mode)) (by rw [offline]; nofun)
  · exact joinsBy (.inl offline) ((Engine.join_of_clear clear offline).trans (if_pos mode)) (by rw [offline]; nofun)
  · exact joinsBy (.inl offline) (Engine.join_of_owed (.inl owed)) (by rw [offline]; nofun)
  · exact joinsBy (.inr withdrawn) (Engine.join_of_owed (.inr withdrawn)) (by rw [withdrawn]; nofun)
  · rw [exec_goOnline, State.request_ok taken kind parsed (doGoOnline_of_online (s := s.dropRequest) online)]
    rfl
  · have effect : doGoOnline () s.dropRequest = (s.dropRequest, .refused .wrongState) := by
      have state : s.dropRequest.engine.state = .stopping := stopping
      simp only [doGoOnline, state]
    rw [exec_goOnline, State.request_ok taken kind parsed effect]

/-! ### GO_OFFLINE (R118) -/

theorem exec_goOffline (s : State) : exec .goOffline s = .next (s.request 0x06 parseNone doGoOffline) := rfl

/-- Going OFFLINE at once, with the count of free values as given. -/
theorem State.goOfflineNow_eq {s : State} (other : s.engine.state ≠ .offline) (free : Nat) :
    (s.dropRequest.setFreeCount free).goOfflineNow =
      ((((s.setEngine (s.engine.leave .offline)).setFreeCount free).raise .state
          (.state .offline s.engine.standing s.engine.recoveryOwed false)).dropRequest,
        .ok [engineStateByte .offline, flagByte s.engine.recoveryOwed]) := by
  have event := State.engineEvent_leave (s := s.setFreeCount free) (st := .offline) other.symm
  exact Prod.ext ((State.dropRequest_engineEvent (s.setFreeCount free) _).trans (congrArg State.dropRequest event)) rfl

theorem State.goStopping_eq {s : State} (other : s.engine.state ≠ .stopping) (free : Nat) :
    (s.dropRequest.setFreeCount free).goStopping =
      ((((s.setEngine { s.engine with state := .stopping }).setFreeCount free).raise .state
          (.state .stopping s.engine.standing s.engine.recoveryOwed s.engine.busStuck)).dropRequest,
        .deferred [engineStateByte .stopping, flagByte s.engine.recoveryOwed]) := by
  have event := State.engineEvent_of_changed (s := s.setFreeCount free) (e := { s.engine with state := .stopping })
    (.inl other.symm)
  exact Prod.ext ((State.dropRequest_engineEvent (s.setFreeCount free) _).trans (congrArg State.dropRequest event)) rfl

theorem State.useFree_of_idle {s : State} (idle : s.engine.inBurst = false) : s.useFree = s.setFreeCount s.freeCount :=
  if_neg (by rw [idle]; nofun)

theorem State.useFree_of_burst {s : State} (burst : s.engine.inBurst = true) :
    s.useFree = s.setFreeCount (s.freeCount + 1) := if_pos burst

/-- In ACTIVE a frame in progress is finished first. -/
theorem doGoOffline_of_active {s : State} (active : s.engine.state = .active) :
    doGoOffline () s = if s.frameInProgress then s.useFree.goStopping else s.useFree.goOfflineNow := by
  simp only [doGoOffline, active]

/-- Settles O28: by the engine's state, and in ACTIVE by the phase, which says whether a frame is in progress; in a
burst the free value says it. -/
theorem goOfflineLeavesTheBus : Obligations.GoOfflineLeavesTheBus := by
  intro s r taken kind body e left atOnce stops
  have parsed : parseNone r.body = .ok () := by rw [body]; rfl
  have leaves {free : Nat} (other : e.state ≠ .offline)
      (effect : doGoOffline () s.dropRequest = (s.dropRequest.setFreeCount free).goOfflineNow) :
      exec .goOffline s = .next (atOnce free) := by
    rw [exec_goOffline, State.request_ok taken kind parsed (effect.trans (State.goOfflineNow_eq other free))]
    rfl
  have finishes {free : Nat} (other : e.state ≠ .stopping)
      (effect : doGoOffline () s.dropRequest = (s.dropRequest.setFreeCount free).goStopping) :
      exec .goOffline s = .next (stops free) := by
    rw [exec_goOffline, State.request_ok taken kind parsed (effect.trans (State.goStopping_eq other free))]
    rfl
  refine ⟨fun active phase => ?idle, fun active phase => ?inFrame, fun active burst => ?burst, fun away => ?away,
    fun nothing => ?nothing⟩
  case idle =>
    have noFrame : s.dropRequest.frameInProgress = false ∧ e.inBurst = false := by
      rcases phase with h | h | h <;> simp [e, State.frameInProgress, Engine.inBurst, h]
    refine leaves (by rw [active]; nofun) ?_
    rw [doGoOffline_of_active (s := s.dropRequest) active, noFrame.1,
      State.useFree_of_idle (s := s.dropRequest) noFrame.2]
    rfl
  case inFrame =>
    have frame : s.dropRequest.frameInProgress = true ∧ e.inBurst = false := by
      rcases phase with h | h <;> simp [e, State.frameInProgress, Engine.inBurst, h]
    refine finishes (by rw [active]; nofun) ?_
    rw [doGoOffline_of_active (s := s.dropRequest) active, frame.1,
      State.useFree_of_idle (s := s.dropRequest) frame.2]
    rfl
  case burst =>
    have effect := doGoOffline_of_active (s := s.dropRequest) active
    rw [State.useFree_of_burst (s := s.dropRequest) burst] at effect
    cases free : s.dropRequest.frameInProgress with
    | false =>
      rw [free] at effect
      exact .inl (leaves (by rw [active]; nofun) effect)
    | true =>
      rw [free] at effect
      exact .inr (finishes (by rw [active]; nofun) effect)
  case away =>
    have effect : doGoOffline () s.dropRequest = s.dropRequest.goOfflineNow := by
      rcases away with state | state | state <;> simp [doGoOffline, state, e]
    exact leaves (by rcases away with state | state | state <;> rw [state] <;> nofun) effect
  case nothing =>
    have effect : doGoOffline () s.dropRequest = (s.dropRequest, .nothingToDo (engineFields e)) := by
      rcases nothing with state | state <;> simp [doGoOffline, state, e]
    rw [exec_goOffline, State.request_ok taken kind parsed effect]
    rfl

/-! ### Quiet intervals (R107, R115) -/

theorem exec_syncComplete (s : State) : exec .syncComplete s = .next s.syncComplete := rfl
theorem exec_recoveryInterval (s : State) : exec .recoveryInterval s = .next s.recoveryInterval := rfl

theorem State.syncComplete_of_syncing {s : State} (syncing : s.engine.state = .syncing) :
    s.syncComplete = s.engineEvent (s.engine.leave .active) := if_pos syncing
theorem State.syncComplete_of_other {s : State} (other : s.engine.state ≠ .syncing) : s.syncComplete = s := if_neg other

theorem State.recoveryInterval_of_recovering {s : State} (recovering : s.engine.state = .recovering) :
    s.recoveryInterval = s.engineEvent s.engine.interval := if_pos recovering
theorem State.recoveryInterval_of_other {s : State} (other : s.engine.state ≠ .recovering) :
    s.recoveryInterval = s := if_neg other

theorem Engine.interval_of_last {e : Engine} (last : 64 ≤ e.progress + 1) : e.interval = e.recovered := if_pos last
theorem Engine.interval_of_more {e : Engine} (more : e.progress + 1 < 64) :
    e.interval = { e with progress := e.progress + 1, busStuck := false, watchMs := 0 } :=
  if_neg (Nat.not_le.mpr more)

/-- Settles O31: by the state and, in RECOVERING, by the progress; there STATE is raised where the flag was set. -/
theorem quietIntervalsBringTheEngineBack : Obligations.QuietIntervalsBringTheEngineBack := by
  intro s e
  refine ⟨fun syncing => ?_, fun other => ?_, fun recovering more => ?_, fun recovering last => ?_, fun other => ?_⟩
  · rw [exec_syncComplete, State.syncComplete_of_syncing syncing, State.engineEvent_leave (by rw [syncing]; nofun)]
    rfl
  · rw [exec_syncComplete, State.syncComplete_of_other other]
  · intro u
    rw [exec_recoveryInterval, State.recoveryInterval_of_recovering recovering, Engine.interval_of_more more]
    cases stuck : e.busStuck with
    | false => exact congrArg _ (State.engineEvent_of_same (s := s) rfl rfl stuck.symm)
    | true =>
      rw [State.engineEvent_of_changed (.inr (.inr (by rw [stuck]; nofun))), if_pos rfl, ← recovering]
      rfl
  · rw [exec_recoveryInterval, State.recoveryInterval_of_recovering recovering, Engine.interval_of_last last,
      State.engineEvent_of_changed (.inl (by rw [recovering]; nofun))]
    rfl
  · rw [exec_recoveryInterval, State.recoveryInterval_of_other other]

/-! ### The watch, the start bit, the end of STOPPING (R88, R116, R119) -/

theorem exec_busStuck (s : State) : exec .busStuck s = .next s.busStuck := rfl
theorem exec_startBitRead (s : State) : exec .startBitRead s = .next s.startBit := rfl
theorem exec_stopComplete (s : State) : exec .stopComplete s = .next s.stopComplete := rfl

theorem Engine.stuckDue_iff (e : Engine) :
    e.stuckDue = true ↔
      (e.state = .syncing ∨ e.state = .recovering) ∧ e.mode ≠ .loopback ∧ 1000 ≤ e.watchMs ∧ e.busStuck = false := by
  simp only [Engine.stuckDue, Engine.watchCounts, Bool.and_eq_true, Engine.watching_iff, decide_eq_true_eq,
    Bool.not_eq_true', and_assoc]
  exact Iff.rfl

/-- Settles O32: each of the three by where it stands. -/
theorem watchStartAndStopAreTakenWhereTheyStand : Obligations.WatchStartAndStopAreTakenWhereTheyStand := by
  intro s e
  refine ⟨fun watching mode time clear => ?_, fun not => ?_, fun active mode phase => ?_, fun not => ?_,
    fun stopping burst => ?_, fun not => ?_⟩
  · have due : s.engine.stuckDue = true := s.engine.stuckDue_iff.mpr ⟨watching, mode, time, clear⟩
    rw [exec_busStuck, State.busStuck, if_pos due, State.engineEvent_of_changed (.inr (.inr ?_))]
    · rfl
    · rw [clear]; nofun
  · have idle : s.engine.stuckDue ≠ true := fun due => by
      obtain ⟨watching, mode, time, clear⟩ := s.engine.stuckDue_iff.mp due
      rcases not with ⟨noSync, noRecovery⟩ | loop | early | stuck
      · exact watching.elim noSync noRecovery
      · exact mode loop
      · exact Nat.not_lt.mpr time early
      · rw [clear] at stuck; cases stuck
    rw [exec_busStuck, State.busStuck, if_neg idle]
  · by_cases receiving : e.phase = .receiving
    · have reads : s.engine.readsStart ≠ true := fun h => by
        obtain ⟨-, -, other, -⟩ := s.engine.readsStart_iff.mp h
        exact other receiving
      rw [exec_startBitRead, State.startBit, if_neg reads, if_pos receiving]
    · have reads : s.engine.readsStart = true := s.engine.readsStart_iff.mpr ⟨active, mode, receiving, phase⟩
      rw [exec_startBitRead, State.startBit, if_pos reads, if_neg receiving]
      rfl
  · have reads : s.engine.readsStart ≠ true := fun h => by
      obtain ⟨active, mode, -, phase⟩ := s.engine.readsStart_iff.mp h
      rcases not with other | loop | sending
      · exact other active
      · exact mode loop
      · exact phase sending
    rw [exec_startBitRead, State.startBit, if_neg reads]
  · rw [exec_stopComplete, State.stopComplete, if_pos ⟨stopping, burst⟩,
      State.engineEvent_leave (by rw [stopping]; nofun)]
    rfl
  · have stays : ¬ (s.engine.state = .stopping ∧ s.engine.inBurst = true) := fun ⟨stopping, burst⟩ =>
      not.elim (· stopping) fun noBurst => by rw [burst] at noBurst; cases noBurst
    rw [exec_stopComplete, State.stopComplete, if_neg stays]

/-! ### RX_FAULT (R108) -/

theorem exec_rxFault_of_wf {kind : FaultKind} {tag : Option Tag} (wf : rxFaultWf kind tag = true) (s : State) :
    exec (.rxFault kind tag) s = .next (s.rxFault kind tag) := if_pos wf

theorem Engine.detects_iff (e : Engine) (kind : FaultKind) :
    e.detects kind = true ↔ e.mode ≠ .loopback ∧
      ((e.state = .active ∧ e.phase ≠ .sending) ∨ (e.state = .stopping ∧ e.phase = .receiving)) ∧
      ¬ (e.mode = .listen ∧ kind = .bitActive) := by
  simp only [Engine.detects, Bool.and_eq_true, Engine.receives_iff, Bool.not_eq_true', Bool.and_eq_false_iff,
    decide_eq_false_iff_not, Decidable.not_and_iff_not_or_not, and_assoc]

/-- Settles O33: where the receiver detects the fault, the engine's event closes the account; the state and the flag
stay, so the standing alone calls for STATE. -/
theorem receiveFaultsAreTakenInOrder : Obligations.ReceiveFaultsAreTakenInOrder := by
  refine ⟨fun s kind tag bad => if_neg (by rw [bad]; nofun), fun s kind tag wf => ?_⟩
  intro e
  refine ⟨fun mode place ack => ?_, fun not => ?_⟩
  · intro f u
    have detects : s.engine.detects kind = true := (s.engine.detects_iff kind).mpr ⟨mode, place, ack⟩
    have same : s.engine.rxFaulted kind tag s.clock = f := by
      simp only [Engine.rxFaulted, burstActive, f, e, Bool.decide_and, satAdd, Config.byteMax]
    rw [exec_rxFault_of_wf wf, State.rxFault, if_pos detects, same, State.engineEvent_of_standing]
    · rw [State.raise_engine]
      rfl
    · rw [State.raise_engine]; rfl
    · rw [State.raise_engine]; rfl
  · have unseen : s.engine.detects kind ≠ true := fun h => by
      obtain ⟨mode, place, ack⟩ := (s.engine.detects_iff kind).mp h
      rcases not with loop | listens | away
      · exact mode loop
      · exact ack listens
      · exact away place
    rw [exec_rxFault_of_wf wf, State.rxFault, if_neg unseen]

end Sys2Proof.Machine
end

section
/-! PROOFS. The host's requests on the slot table (01_the_slot_table.md; 03_transmission.md, R48, R49). -/

namespace Sys2Proof.Machine

-- The declarations are elaborated in turn: one thread does for the whole file.
set_option Elab.async false

/-! ### SET_MASKS (R5) -/

theorem exec_setMasks (s : State) : exec .setMasks s = .next (s.request 0x09 parseMasks doSetMasks) := rfl

theorem parseMasks_bytes (a b : Tag) : parseMasks (tagBytes a ++ tagBytes b) = .ok (a, b) := by
  simp only [tagBytes, List.cons_append, List.nil_append, parseMasks, tagOf_tagBytes]

/-- Settles O34: both masks are read back from their bytes, whatever the state. -/
theorem setMasksReplacesBothMasks : Obligations.SetMasksReplacesBothMasks := by
  intro s r a b taken kind body
  have effect : doSetMasks (a, b) s.dropRequest = ((s.setMasks a b).dropRequest, .ok (tagBytes a ++ tagBytes b)) := rfl
  rw [exec_setMasks, State.request_ok taken kind (body ▸ parseMasks_bytes a b) effect]
  rfl

/-! ### CONFIG_SLOT (R3, R15) -/

theorem lengthOf_lengthByte {role : Role} {length : CfgLength} (fits : ∀ k, length = .exact k → k ≤ 16)
    (publish : role = .publish → length ≠ .any) : lengthOf role (lengthByte length) = some length := by
  cases length with
  | any => exact (if_pos rfl).trans (if_neg fun h => publish h rfl)
  | exact k =>
    have most := fits k rfl
    have value : (lengthByte (.exact k)).toNat = k := byteOf_toNat (by omega)
    have other : lengthByte (.exact k) ≠ 0xFF := fun same => by
      rw [same] at value
      change 255 = k at value
      omega
    rw [lengthOf, if_neg other, value]
    exact if_pos most

theorem retryOf_retryByte {limit : RetryLimit} (fits : ∀ k, limit = .limit k → k ≤ 14) :
    retryOf (retryByte limit) = some limit := by
  cases limit with
  | unlimited => rfl
  | limit k =>
    have most := fits k rfl
    have value : (retryByte (.limit k)).toNat = k := byteOf_toNat (by omega)
    have other : retryByte (.limit k) ≠ 15 := fun same => by
      rw [same] at value
      change 15 = k at value
      omega
    rw [retryOf, if_neg other, value]
    exact if_pos most

/-- A field in range, and what comes after it. -/
theorem field_some_bind {α β : Type} (k : Nat) (a : α) (next : α → Except Reply β) :
    (field k (some a) >>= next) = next a := rfl

/-- The body of CONFIG_SLOT, written field by field, is read back. -/
theorem parseConfig_bytes {cfg : SlotConfig} (n : SlotNo) (interval : cfg.interval ≤ 60000)
    (length : ∀ k, cfg.length = .exact k → k ≤ 16) (publish : cfg.role = .publish → cfg.length ≠ .any)
    (retries : ∀ k, cfg.retryLimit = .limit k → k ≤ 14) :
    parseConfig ([slotByte n, roleByte cfg.role] ++ tagBytes cfg.tag ++ [matchByte cfg.mtch, lengthByte cfg.length]
      ++ halfBytes cfg.interval ++ [retryByte cfg.retryLimit, flagByte cfg.answer, flagByte cfg.notify])
      = .ok (n, cfg) := by
  simp only [tagBytes, halfBytes, List.cons_append, List.nil_append, parseConfig, slotOf_slotByte, roleOf_roleByte,
    matchOf_matchByte, lengthOf_lengthByte length publish, intervalOf_halfBytes interval, retryOf_retryByte retries,
    flagOf_flagByte, tagOf_tagBytes, field_some_bind]
  rfl

theorem doConfigSlot_of_disabled {s : State} {a : SlotNo × SlotConfig} (life : (s.slot a.1).life = .disabled) :
    doConfigSlot a s = (s.setSlot a.1 (Slot.configured a.2.stored), .ok [slotByte a.1]) := by
  simp only [doConfigSlot, life]

/-- R3, R15: the configuration as it is stored, and the payload of its length. -/
theorem Slot.configured_stored (cfg : SlotConfig) :
    Slot.configured cfg.stored = { Slot.reset with
      cfg := if cfg.role = .none then .neutral else { cfg with answer := cfg.answer && cfg.role = .publish }
      payload := match cfg.role, cfg.length with
        | .publish, .exact k => List.replicate k 0
        | _, _ => [] } := by
  obtain ⟨role, tag, mtch, length, interval, retryLimit, answer, notify⟩ := cfg
  cases role with
  | none => rfl
  | publish => cases length <;> simp [Slot.configured, SlotConfig.stored]
  | subscribe => simp [Slot.configured, SlotConfig.stored]

/-- Settles O35: the body is read back, and the slot's life decides. -/
theorem configSlotStartsTheSlotAfresh : Obligations.ConfigSlotStartsTheSlotAfresh := by
  intro s r n cfg taken kind interval length publish retries body
  have parsed := parseConfig_bytes n interval length publish retries
  rw [← body] at parsed
  have answered {t : State} {rep : Reply} (effect : doConfigSlot (n, cfg) s.dropRequest = (t.dropRequest, rep)) :
      exec .configSlot s = .next (t.answered r rep) := by
    rw [exec_configSlot, State.request_ok taken kind parsed effect]
  refine ⟨fun life => ?disabled, fun life => ?enabled, fun life => ?draining⟩
  case disabled =>
    have effect := doConfigSlot_of_disabled (s := s.dropRequest) (a := (n, cfg)) life
    rw [State.dropRequest_setSlot, Slot.configured_stored] at effect
    exact answered effect
  case enabled => exact answered (by simp only [doConfigSlot, State.dropRequest_slot, life])
  case draining => exact answered (by simp only [doConfigSlot, State.dropRequest_slot, life])

/-! ### ENABLE_SLOT (R16) -/

theorem exec_enableSlot (s : State) : exec .enableSlot s = .next (s.request 0x0B parseSlot doEnableSlot) := rfl

theorem State.tagConflict_iff (s : State) (n : SlotNo) :
    s.tagConflict n = true ↔ (s.slot n).cfg.role = .publish ∧
      ∃ m, m ≠ n ∧ (s.slot m).cfg.role = .publish ∧ (s.slot m).life ≠ .disabled ∧
        (s.slot m).cfg.tag = (s.slot n).cfg.tag := by
  simp only [State.tagConflict, Bool.and_eq_true, List.any_eq_true, mem_allSlots, true_and, decide_eq_true_eq,
    Slot.publishing_iff, and_assoc]

/-- The checks passed, the slot's life decides. -/
theorem doEnableSlot_of_checked {s : State} {n : SlotNo} (role : (s.slot n).cfg.role ≠ .none)
    (apart : s.tagConflict n ≠ true) :
    ((s.slot n).life = .enabled → doEnableSlot n s = (s, .nothingToDo (lifeFields n .enabled))) ∧
    ((s.slot n).life = .draining → doEnableSlot n s = (s, .refused .slotDraining)) ∧
    ((s.slot n).life = .disabled →
      doEnableSlot n s = (s.setSlot n (s.slot n).enable, .ok (lifeFields n .enabled))) := by
  refine ⟨fun life => ?_, fun life => ?_, fun life => ?_⟩ <;> rw [doEnableSlot, if_neg role, if_neg apart] <;>
    simp only [life]

/-- Settles O36: by the four checks. -/
theorem enableSlotChecksThenEnables : Obligations.EnableSlotChecksThenEnables := by
  intro s r n taken kind body x clashes
  have conflict : s.dropRequest.tagConflict n = true ↔ clashes := State.tagConflict_iff s.dropRequest n
  have answered {t : State} {rep : Reply} (effect : doEnableSlot n s.dropRequest = (t.dropRequest, rep)) :
      exec .enableSlot s = .next (t.answered r rep) := by
    rw [exec_enableSlot, State.request_slot taken kind body effect]
  refine ⟨fun none => answered (if_pos none), fun clash => answered ?_, fun role apart => ?_⟩
  · have publish : (s.slot n).cfg.role = .publish := clash.1
    exact (if_neg (by rw [State.dropRequest_slot, publish]; nofun)).trans (if_pos (conflict.mpr clash))
  · obtain ⟨enabled, draining, disabled⟩ :=
      doEnableSlot_of_checked (s := s.dropRequest) role (mt conflict.mp apart)
    exact ⟨fun life => answered (enabled life), fun life => answered (draining life),
      fun life => answered (disabled life)⟩

/-! ### DISABLE_SLOT (R17) -/

theorem exec_disableSlot (s : State) : exec .disableSlot s = .next (s.request 0x0C parseSlot doDisableSlot) := rfl

theorem doDisableSlot_of_off {s : State} {n : SlotNo}
    (off : (s.slot n).life = .disabled ∨ (s.slot n).life = .draining) :
    doDisableSlot n s = (s, .nothingToDo (lifeFields n (s.slot n).life)) := by
  rcases off with life | life <;> simp only [doDisableSlot, life]

theorem doDisableSlot_of_enabled {s : State} {n : SlotNo} (life : (s.slot n).life = .enabled) :
    doDisableSlot n s =
      if (s.slot n).tx = .onBus then (s.setSlot n (s.slot n).drain, .deferred (lifeFields n .draining))
      else (s.setSlot n (s.slot n).disable, .ok (lifeFields n .disabled)) := by
  simp only [doDisableSlot, life]

/-- Settles O37: by the slot's life, and for an ENABLED one by whether it is ON_BUS. -/
theorem disableSlotDisablesOrDrains : Obligations.DisableSlotDisablesOrDrains := by
  intro s r n taken kind body x
  have answered {t : State} {rep : Reply} (effect : doDisableSlot n s.dropRequest = (t.dropRequest, rep)) :
      exec .disableSlot s = .next (t.answered r rep) := by
    rw [exec_disableSlot, State.request_slot taken kind body effect]
  refine ⟨fun life tx => answered ?_, fun life tx => answered ?_, fun life => answered ?_, fun life => answered ?_⟩
  · exact (doDisableSlot_of_enabled (s := s.dropRequest) life).trans (if_neg tx)
  · exact (doDisableSlot_of_enabled (s := s.dropRequest) life).trans (if_pos tx)
  · rw [doDisableSlot_of_off (s := s.dropRequest) (.inl life), State.dropRequest_slot, life]; rfl
  · rw [doDisableSlot_of_off (s := s.dropRequest) (.inr life), State.dropRequest_slot, life]; rfl

/-! ### WRITE_SLOT (R18) -/

theorem exec_writeSlot (s : State) : exec .writeSlot s = .next (s.request 0x0D parseWrite doWriteSlot) := rfl

theorem parseWrite_bytes {data : List Byte} (n : SlotNo) (send : Bool) (fits : data.length ≤ 16) :
    parseWrite ([slotByte n, flagByte send, BitVec.ofNat 8 data.length] ++ data) = .ok (n, send, data) := by
  have length : data.length = (BitVec.ofNat 8 data.length).toNat := (byteOf_toNat (by omega)).symm
  have range : (BitVec.ofNat 8 data.length).toNat ≤ Config.maxPayload := length ▸ fits
  simp only [List.cons_append, List.nil_append, parseWrite, if_pos length, slotOf_slotByte, flagOf_flagByte,
    if_pos range, field_some_bind]
  rfl

section
variable {s : State} {a : SlotNo × Bool × List Byte}

theorem doWriteSlot_of_role (role : (s.slot a.1).cfg.role ≠ .publish) : doWriteSlot a s = (s, .refused .wrongRole) :=
  if_pos role

theorem doWriteSlot_of_length (role : (s.slot a.1).cfg.role = .publish)
    (other : (s.slot a.1).cfg.length ≠ .exact a.2.2.length) : doWriteSlot a s = (s, .refused .lengthMismatch) :=
  (if_neg (Classical.not_not.mpr role)).trans (if_pos other)

/-- The role and the length checked, the slot's life and the send flag decide. -/
theorem doWriteSlot_of_fits (role : (s.slot a.1).cfg.role = .publish)
    (length : (s.slot a.1).cfg.length = .exact a.2.2.length) :
    doWriteSlot a s =
      if (s.slot a.1).life = .draining then (s, .refused .slotDraining)
      else if a.2.1 ∧ (s.slot a.1).life = .disabled then (s, .refused .slotDisabled)
      else (s.setSlot a.1 ((s.slot a.1).write a.2.1 a.2.2),
        .ok (againFields a.1 ((s.slot a.1).write a.2.1 a.2.2))) :=
  (if_neg (Classical.not_not.mpr role)).trans (if_neg (Classical.not_not.mpr length))

end

/-- Settles O38: by the checks in their order, then by the send flag and the transmit state. -/
theorem writeSlotReplacesThePayload : Obligations.WriteSlotReplacesThePayload := by
  intro s r n send data taken kind fits body x done
  have parsed : parseWrite r.body = .ok (n, send, data) := body ▸ parseWrite_bytes n send fits
  have answered {t : State} {rep : Reply} (effect : doWriteSlot (n, send, data) s.dropRequest = (t.dropRequest, rep)) :
      exec .writeSlot s = .next (t.answered r rep) := by
    rw [exec_writeSlot, State.request_ok taken kind parsed effect]
  refine ⟨fun role => answered (doWriteSlot_of_role (s := s.dropRequest) role), fun role =>
    ⟨fun other => answered (doWriteSlot_of_length (s := s.dropRequest) role other), fun length => ?_⟩⟩
  have decides := doWriteSlot_of_fits (s := s.dropRequest) (a := (n, send, data)) role length
  have written (life : x.life ≠ .draining) (sends : ¬ (send = true ∧ x.life = .disabled)) :
      done (x.write send data) := by
    exact answered (decides.trans ((if_neg life).trans (if_neg sends)))
  refine ⟨fun life => answered (decides.trans (if_pos life)), fun life sends => answered ?_, fun life noSend => ?_,
    fun life sends => ?_⟩
  · exact decides.trans ((if_neg (by rw [State.dropRequest_slot, life]; nofun)).trans (if_pos ⟨sends, life⟩))
  · subst noSend
    exact written life (fun ⟨sends, _⟩ => nomatch sends)
  · subst sends
    have effect := written (by rw [life]; nofun) (fun ⟨_, disabled⟩ => by rw [life] at disabled; cases disabled)
    have write : x.write true data = { x with payload := data }.want .send := rfl
    rw [write] at effect
    cases tx : x.tx with
    | onBus =>
      rw [Slot.want_of_onBus (x := { x with payload := data }) (r := .send) tx nofun, tx] at effect
      exact effect
    | idle =>
      rw [Slot.want_of_idle (x := { x with payload := data }) tx] at effect
      exact effect
    | pending =>
      rw [Slot.want_of_pending (x := { x with payload := data }) tx, tx] at effect
      exact effect

/-! ### READ_SLOT (R19) -/

theorem exec_readSlot (s : State) : exec .readSlot s = .next (s.request 0x0E parseRead doReadSlot) := rfl

theorem parseRead_bytes (n : SlotNo) (consume : Bool) : parseRead [slotByte n, flagByte consume] = .ok (n, consume) := by
  simp only [parseRead, slotOf_slotByte, flagOf_flagByte, field_some_bind]
  rfl

theorem reasonsByte_eq (r : Reasons) :
    reasonsByte r = BitVec.ofNat 8 (r.send.toNat + 2 * r.answer.toNat + 4 * r.query.toNat) := by
  obtain ⟨send, answer, query⟩ := r
  revert send answer query
  decide

/-- R19: FRESH becomes SEEN and the overrun count 0; EMPTY stays. -/
theorem Slot.consume_of_subscribe {x : Slot} (role : x.cfg.role = .subscribe) :
    x.consume = { x with dataState := if x.dataState = .empty then .empty else .seen, overrun := 0 } := by
  rw [Slot.consume, if_pos role]
  cases x.dataState <;> rfl

theorem Slot.consume_of_other {x : Slot} (role : x.cfg.role ≠ .subscribe) : x.consume = x := if_neg role

/-- Settles O39: the reply is made of the record as it stood, whatever the consume then does. -/
theorem readSlotReportsThenConsumes : Obligations.ReadSlotReportsThenConsumes := by
  intro s r n consume taken kind body x shown
  have parsed : parseRead r.body = .ok (n, consume) := body ▸ parseRead_bytes n consume
  have bytes : slotRecordBytes n x = shown := by
    simp only [slotRecordBytes, reasonsByte_eq, shown, halfBytes]
    simp [slotByte, byteOf]
  have effect : doReadSlot (n, consume) s.dropRequest =
      ((if consume then s.setSlot n x.consume else s).dropRequest, .ok shown) := by
    rw [← bytes]
    cases consume <;> rfl
  have answered := State.request_ok taken kind parsed effect
  refine ⟨fun consumes role => ?_, fun kept => ?_⟩
  · rw [exec_readSlot, answered, if_pos consumes, Slot.consume_of_subscribe role]
  · have same : (if consume then s.setSlot n x.consume else s) = s := by
      split
      · next consumes =>
        have role := kept.resolve_left (by rw [consumes]; nofun)
        rw [Slot.consume_of_other role, State.setSlot_self]
      · rfl
    rw [exec_readSlot, answered, same]

/-! ### SEND_SLOT and QUERY_SLOT (R48, R49) -/

section
variable {s : State} {n : SlotNo} {role : Role} {reason : Reason}

theorem askReason_of_disabled (life : (s.slot n).life = .disabled) :
    askReason role reason n s = (s, .refused .slotDisabled) := by
  simp only [askReason, life]

theorem askReason_of_draining (life : (s.slot n).life = .draining) :
    askReason role reason n s = (s, .refused .slotDraining) := by
  simp only [askReason, life]

theorem askReason_of_other_role (life : (s.slot n).life = .enabled) (other : (s.slot n).cfg.role ≠ role) :
    askReason role reason n s = (s, .refused .wrongRole) := by
  simp only [askReason, life, if_pos other]

theorem askReason_of_idle (life : (s.slot n).life = .enabled) (same : (s.slot n).cfg.role = role)
    (tx : (s.slot n).tx = .idle) :
    askReason role reason n s =
      (s.setSlot n { s.slot n with tx := .pending, reasons := (s.slot n).reasons.add reason },
        .ok [slotByte n, 1, flagByte (s.slot n).again]) := by
  simp only [askReason, life, if_neg (Classical.not_not.mpr same), tx, Slot.want_of_idle tx]
  rfl

theorem askReason_of_pending (life : (s.slot n).life = .enabled) (same : (s.slot n).cfg.role = role)
    (tx : (s.slot n).tx = .pending) :
    askReason role reason n s =
      (s.setSlot n { s.slot n with tx := .pending, reasons := (s.slot n).reasons.add reason },
        .nothingToDo [slotByte n, 1, flagByte (s.slot n).again]) := by
  simp only [askReason, life, if_neg (Classical.not_not.mpr same), tx, Slot.want_of_pending tx]
  rfl

theorem askReason_of_onBus (life : (s.slot n).life = .enabled) (same : (s.slot n).cfg.role = role)
    (tx : (s.slot n).tx = .onBus) (other : reason ≠ .answer) :
    ((s.slot n).again = false → askReason role reason n s =
      (s.setSlot n { s.slot n with again := true }, .ok [slotByte n, 2, 1])) ∧
    ((s.slot n).again = true → askReason role reason n s = (s, .nothingToDo [slotByte n, 2, 1])) := by
  refine ⟨fun unmarked => ?_, fun marked => ?_⟩
  · simp only [askReason, life, if_neg (Classical.not_not.mpr same), tx, Slot.want_of_onBus tx other, unmarked, againFields]
    rfl
  · simp only [askReason, life, if_neg (Classical.not_not.mpr same), tx, Slot.want_of_marked tx marked other, marked,
      againFields, State.setSlot_self]
    rfl

end

/-- R48, R49: the table that SEND_SLOT and QUERY_SLOT share. -/
theorem exec_askReason {s : State} {r : Request} {c : Instr} {code : Byte} {role : Role} {reason : Reason} {n : SlotNo}
    (command : exec c s = .next (s.request code parseSlot (askReason role reason))) (other : reason ≠ .answer)
    (taken : s.Takes r) (kind : r.kind = code) (body : r.body = [slotByte n]) :
    let x := s.slot n
    let added : Slot := { x with tx := .pending, reasons := x.reasons.add reason }
    (x.life = .disabled → exec c s = .next (s.answered r (.refused .slotDisabled))) ∧
    (x.life = .draining → exec c s = .next (s.answered r (.refused .slotDraining))) ∧
    (x.life = .enabled →
      (x.cfg.role ≠ role → exec c s = .next (s.answered r (.refused .wrongRole))) ∧
      (x.cfg.role = role →
        (x.tx = .idle → exec c s = .next
          ((s.setSlot n added).answered r (.ok [slotByte n, 1, flagByte x.again]))) ∧
        (x.tx = .pending → exec c s = .next
          ((s.setSlot n added).answered r (.nothingToDo [slotByte n, 1, flagByte x.again]))) ∧
        (x.tx = .onBus → x.again = false → exec c s = .next
          ((s.setSlot n { x with again := true }).answered r (.ok [slotByte n, 2, 1]))) ∧
        (x.tx = .onBus → x.again = true → exec c s = .next
          (s.answered r (.nothingToDo [slotByte n, 2, 1]))))) := by
  intro x added
  have answered {t : State} {rep : Reply} (effect : askReason role reason n s.dropRequest = (t.dropRequest, rep)) :
      exec c s = .next (t.answered r rep) := by
    rw [command, State.request_slot taken kind body effect]
  refine ⟨fun life => answered (askReason_of_disabled life), fun life => answered (askReason_of_draining life),
    fun life => ⟨fun wrong => answered (askReason_of_other_role life wrong), fun same => ⟨fun tx => ?_, fun tx => ?_,
      fun tx unmarked => ?_, fun tx marked => ?_⟩⟩⟩
  · exact answered (askReason_of_idle (s := s.dropRequest) life same tx)
  · exact answered (askReason_of_pending (s := s.dropRequest) life same tx)
  · exact answered ((askReason_of_onBus (s := s.dropRequest) life same tx other).1 unmarked)
  · exact answered ((askReason_of_onBus (s := s.dropRequest) life same tx other).2 marked)

/-- Settles O40: the one table, for SEND_SLOT and for QUERY_SLOT. -/
theorem sendAndQueryLeaveAReason : Obligations.SendAndQueryLeaveAReason := by
  intro s r n send taken kind body
  cases send with
  | true => exact exec_askReason (role := .publish) (reason := .send) rfl nofun taken kind body
  | false => exact exec_askReason (role := .subscribe) (reason := .query) rfl nofun taken kind body

end Sys2Proof.Machine
end

section
/-! PROOFS. Notices: recording, delivery, and the two requests that set and acknowledge (07_notices.md). -/

namespace Sys2Proof.Machine

-- The declarations are elaborated in turn: one thread does for the whole file.
set_option Elab.async false

/-! ### Recording (R127, R129) -/

theorem State.raise_of_off {s : State} {p : Pair} (off : s.eventEnabled p = false) (d : Detail) : s.raise p d = s :=
  if_neg (by rw [off]; nofun)

theorem State.raise_of_on {s : State} {p : Pair} (on : s.eventEnabled p = true) (d : Detail) :
    s.raise p d = s.setNotices (s.notices.record s.clock p d) := if_pos on

/-- Settles O45: the pending list put at the pair, its other pairs as they were. -/
theorem eventsFoldIntoOnePendingEntry : Obligations.EventsFoldIntoOnePendingEntry := by
  intro s p d wf enabled
  have enable : s.eventEnabled p = enabled := by
    cases p with
    | slot n kind => cases kind <;> rfl
    | _ => rfl
  refine ⟨fun off => State.raise_of_off (enable.trans off) d, fun on => ?_⟩
  have self := keyedGet_put_self p (Entry.fold s.clock d) s.notices.pending wf
  refine ⟨keyedPut p (Entry.fold s.clock d) s.notices.pending, State.raise_of_on (enable.trans on) d,
    keyedWf_put _ _ _ wf, fun q other => keyedGet_put_other other _ _, fun absent => ?_, fun e held => ?_⟩
  · rw [self, absent]; rfl
  · rw [self, held]; rfl

/-! ### Delivery (R132 to R135) -/

/-- R133: in rank order the first eligible entry is the highest-ranked one. -/
theorem Notices.eligible_of_highest {nt : Notices} {p : Pair} {e : Entry} (wf : keyedWf nt.pending = true)
    (held : (p, e) ∈ nt.pending) (none : keyedGet p nt.outstanding = none)
    (highest : ∀ q e', (q, e') ∈ nt.pending → keyedGet q nt.outstanding = Option.none → p.rank ≤ q.rank) :
    nt.eligible = some (p, e) := by
  obtain ⟨before, after, split⟩ := List.append_of_mem held
  refine List.find?_eq_some_iff_append.mpr ⟨by simp [none], before, after, split, fun x mem => ?_⟩
  have above : x.1.rank < p.rank := by
    rw [split, keyedWf_iff_pairwise, List.pairwise_append] at wf
    exact wf.2.2 x mem (p, e) List.mem_cons_self
  rw [Bool.not_eq_true', Option.isNone_eq_false_iff, ← Option.ne_none_iff_isSome]
  exact fun free => Nat.not_le.mpr above (highest x.1 x.2 (by rw [split]; exact List.mem_append_left _ mem) free)

theorem Notices.toDeliver_of_open {nt : Notices} (opened : nt.gate = true) (room : nt.outstanding.length < nt.window) :
    nt.toDeliver = nt.eligible := if_pos (by simp [opened, room])

/-- R132, R134: behind a closed gate, at a full window, or with no entry eligible, there is nothing to deliver. -/
theorem Notices.toDeliver_eq_none {nt : Notices}
    (held : nt.gate = false ∨ nt.window ≤ nt.outstanding.length ∨
      ∀ p e, ¬ ((p, e) ∈ nt.pending ∧ keyedGet p nt.outstanding = none)) : nt.toDeliver = none := by
  cases deliver : nt.toDeliver with
  | none => rfl
  | some x =>
    obtain ⟨opened, room, mem, free⟩ := Notices.toDeliver_eq_some deliver
    rcases held with closed | full | absent
    · rw [opened] at closed; cases closed
    · exact absurd room (Nat.not_lt.mpr full)
    · exact absurd ⟨mem, free⟩ (absent x.1 x.2)

theorem State.deliver_of_some {s : State} {p : Pair} {e : Entry} (grant : s.link.grantsNotice = true)
    (deliver : s.notices.toDeliver = some (p, e)) :
    s.deliver = (s.setNotices (s.notices.send p e)).setLink
      { s.link with hostOut := some (noticeFrame p (s.notices.number e)) } := by
  simp only [State.deliver, if_pos grant, deliver]

theorem State.deliver_of_none {s : State} (deliver : s.notices.toDeliver = none) : s.deliver = s := by
  simp only [State.deliver, deliver, ite_self]

/-- Settles O46: the entry sent is the first eligible one, and its number the first free one of at most 8. -/
theorem deliverySendsTheHighestRankedEntry : Obligations.DeliverySendsTheHighestRankedEntry := by
  intro s sound noHello empty notOnLine nt eligible
  have grant : s.link.grantsNotice = true := s.link.grantsNotice_iff.mpr ⟨noHello, empty, notOnLine⟩
  obtain ⟨wf, wfOut, -, window, -⟩ := sound
  refine ⟨fun opened room p e ⟨held, free⟩ highest => ?_, fun none => ?_⟩
  · have first := Notices.eligible_of_highest wf held free fun q e' mem none => highest q e' ⟨mem, none⟩
    have deliver := (Notices.toDeliver_of_open opened room).trans first
    obtain ⟨k, few, number, taken, fresh⟩ := Notices.number_spec (Nat.lt_of_lt_of_le room window) e
    have sent : nt.number e = ⟨e, nt.nextNumber + BitVec.ofNat 8 k⟩ := by rw [← number]; rfl
    refine ⟨k, keyedPut p (fun _ => nt.number e) nt.outstanding, few, fun x mem same => ?_,
      fun j less => (nt.holds_iff _).mp (taken j less), ?_, fun q other => keyedGet_put_other other _ _, ?_⟩
    · rw [(nt.holds_iff _).mpr ⟨x, mem, same⟩] at fresh; cases fresh
    · rw [keyedGet_put_self _ _ _ wfOut, sent]
    · have send : nt.send p e = { nt with
          pending := nt.pending.filter (fun x : Pair × Entry => x.1 ≠ p)
          outstanding := keyedPut p (fun _ => nt.number e) nt.outstanding
          nextNumber := nt.nextNumber + BitVec.ofNat 8 k + 1 } := by rw [← number]; rfl
      rw [exec_noticeDelivery, State.deliver_of_some grant deliver, send, sent]
      rfl
  · rw [exec_noticeDelivery, State.deliver_of_none (Notices.toDeliver_eq_none none)]

/-! ### NOTICE_CONTROL (R137, R138) -/

theorem exec_noticeControl (s : State) :
    exec .noticeControl s = .next (s.request 0x14 parseNoticeControl doNoticeControl) := rfl

theorem slotOrNoneOf_slotByte (n : SlotNo) : slotOrNoneOf (slotByte n) = some (some n) := by revert n; decide

theorem parseNoticeControl_bytes {b : Byte} (a : NoticeSetting) (slot : slotOrNoneOf b = some a.slot) :
    parseNoticeControl [flagByte a.gate, flagByte a.stateEnable, flagByte a.tagClashEnable,
      flagByte a.busFaultEnable, flagByte a.catchEnable, b, flagByte a.notify] = .ok a := by
  simp only [parseNoticeControl, flagOf_flagByte, slot, field_some_bind]
  rfl

section
variable {s : State} {a : NoticeSetting}

theorem doNoticeControl_of_none (none : a.slot = none) :
    doNoticeControl a s = (s.setNotices (s.notices.control a), .ok (controlFields (s.notices.control a) 0xFF)) := by
  simp only [doNoticeControl, none]

theorem doNoticeControl_of_unconfigured {n : SlotNo} (slot : a.slot = some n) (role : (s.slot n).cfg.role = .none) :
    doNoticeControl a s = (s, .refused .notConfigured) := by
  simp only [doNoticeControl, slot, if_pos role]

theorem doNoticeControl_of_slot {n : SlotNo} (slot : a.slot = some n) (role : (s.slot n).cfg.role ≠ .none) :
    doNoticeControl a s =
      ((s.setNotices (s.notices.control a)).setSlot n ((s.slot n).setNotify a.notify),
        .ok (controlFields (s.notices.control a) (flagByte a.notify))) := by
  simp only [doNoticeControl, slot, if_neg role]

end

/-- Settles O47: the body is read back, and then the slot it names, if any, decides by its role. -/
theorem noticeControlSetsGateAndEnables : Obligations.NoticeControlSetsGateAndEnables := by
  intro s r g st tc bf c y slot taken kind body nt shown
  have parsed : parseNoticeControl r.body = .ok ⟨g, st, tc, bf, c, slot, y⟩ := by
    rw [body]
    cases slot with
    | none => exact parseNoticeControl_bytes ⟨g, st, tc, bf, c, none, y⟩ rfl
    | some n => exact parseNoticeControl_bytes ⟨g, st, tc, bf, c, some n, y⟩ (slotOrNoneOf_slotByte n)
  have answered {t : State} {rep : Reply}
      (effect : doNoticeControl ⟨g, st, tc, bf, c, slot, y⟩ s.dropRequest = (t.dropRequest, rep)) :
      exec .noticeControl s = .next (t.answered r rep) := by
    rw [exec_noticeControl, State.request_ok taken kind parsed effect]
  refine ⟨fun none => answered (doNoticeControl_of_none (s := s.dropRequest) none), fun n named =>
    ⟨fun role => answered (doNoticeControl_of_unconfigured (s := s.dropRequest) named role), fun role => ?_⟩⟩
  exact answered (doNoticeControl_of_slot (s := s.dropRequest) named role)

/-! ### ACK_NOTICES (R139) -/

theorem exec_ackNotices (s : State) : exec .ackNotices s = .next (s.request 0x15 parseAck doAckNotices) := rfl

theorem windowOf_of_range {w : Byte} (range : w.toNat ≤ 8 ∨ w = 0xFF) :
    windowOf w = some (if w = 0xFF then none else some w.toNat) := by
  unfold windowOf
  split
  · rfl
  · next other => exact if_pos (range.resolve_right other)

theorem parseAck_bytes {w : Byte} {numbers : List Byte} (some : 1 ≤ numbers.length) (most : numbers.length ≤ 8)
    (range : w.toNat ≤ 8 ∨ w = 0xFF) :
    parseAck (w :: numbers) = .ok (if w = 0xFF then none else Option.some w.toNat, numbers) := by
  rw [parseAck, if_pos ⟨some, most⟩, windowOf_of_range range, field_some_bind]
  rfl

/-- R139: what is removed and what stays are all there was. -/
theorem removeNumbers_eq (out : List (Pair × Numbered)) (numbers : List Byte) :
    removeNumbers out numbers = out.filter (fun x => x.2.number ∉ numbers) ∧
      out.length - (removeNumbers out numbers).length = (out.filter fun x => x.2.number ∈ numbers).length := by
  have stay : removeNumbers out numbers = out.filter (fun x => x.2.number ∉ numbers) :=
    List.filter_congr fun x _ => by simp
  have all := List.length_eq_countP_add_countP (fun x : Pair × Numbered => decide (x.2.number ∈ numbers)) (l := out)
  simp only [List.countP_eq_length_filter, decide_eq_true_eq] at all
  exact ⟨stay, by rw [stay]; omega⟩

/-- Settles O48: the body is read back, and the numbers it names are taken out at once. -/
theorem ackNoticesRemovesByNumber : Obligations.AckNoticesRemovesByNumber := by
  intro s r w numbers taken kind some most range body window left
  obtain ⟨stay, removed⟩ := removeNumbers_eq s.notices.outstanding numbers
  have parsed := parseAck_bytes some most range
  rw [← body] at parsed
  have set : (if w = 0xFF then none else Option.some w.toNat).getD s.notices.window = window := by
    simp only [window]
    split <;> rfl
  have ack : s.notices.ack (if w = 0xFF then none else Option.some w.toNat) numbers =
      { s.notices with window := window, outstanding := left } := by
    rw [Notices.ack, set, stay]
  have effect : doAckNotices (if w = 0xFF then none else Option.some w.toNat, numbers) s.dropRequest =
      ((s.setNotices { s.notices with window := window, outstanding := left }).dropRequest,
        .ok [BitVec.ofNat 8 (s.notices.outstanding.filter (fun x : Pair × Numbered => x.2.number ∈ numbers)).length,
          BitVec.ofNat 8 window, BitVec.ofNat 8 left.length, BitVec.ofNat 8 s.notices.pending.length]) := by
    rw [← removed, stay]
    simp only [doAckNotices, State.dropRequest_notices, ack]
    rfl
  rw [exec_ackNotices, State.request_ok taken kind parsed effect]
  rfl

end Sys2Proof.Machine
end

section
/-! PROOFS. The fate of a frame and the frame end (02_acceptance_and_reception.md), and selection (03_transmission.md,
R54 to R56). -/

namespace Sys2Proof.Machine

-- The declarations are elaborated in turn: one thread does for the whole file.
set_option Elab.async false

/-! ### The first slot, in slot-number order -/

theorem allSlots_sorted : allSlots.Pairwise (· < ·) := by decide

theorem allSlots_find?_of_first {p : SlotNo → Bool} {n : SlotNo} (here : p n = true) (first : ∀ m, m < n → p m ≠ true) :
    allSlots.find? p = some n := by
  obtain ⟨before, after, split⟩ := List.append_of_mem (mem_allSlots n)
  refine List.find?_eq_some_iff_append.mpr ⟨here, before, after, split, fun m mem => ?_⟩
  have less : m < n := by
    have sorted := allSlots_sorted
    rw [split, List.pairwise_append] at sorted
    exact sorted.2.2 m mem n List.mem_cons_self
  simpa using first m less

theorem allSlots_find?_of_absent {p : SlotNo → Bool} (absent : ∀ n, p n ≠ true) : allSlots.find? p = none :=
  List.find?_eq_none.mpr fun n _ => absent n

/-! ### Matching (R4) -/

theorem State.slotMatches_iff (s : State) (x : Slot) (tag : Tag) :
    s.slotMatches x tag = true ↔ match x.cfg.mtch with
      | .exact => tag = x.cfg.tag
      | .maskA => tag &&& s.maskA = x.cfg.tag &&& s.maskA
      | .maskB => tag &&& s.maskB = x.cfg.tag &&& s.maskB := by
  have all (t : Tag) : t &&& 0xFFFFFF = t := BitVec.and_allOnes
  unfold State.slotMatches tagMatches State.maskOf
  rw [beq_iff_eq]
  cases x.cfg.mtch with
  | exact => rw [all, all]
  | maskA => exact Iff.rfl
  | maskB => exact Iff.rfl

/-! ### The fate of a frame (R28 to R36) -/

section
variable {s : State} {tag : Tag} {sender : Option SlotNo} {n : SlotNo}

theorem State.accept_of_clash {data : List Byte} (clash : s.clashSlot tag sender = some n) :
    s.accept ⟨tag, .publish data⟩ sender = s.clash tag n := by
  simp only [State.accept, clash]

theorem State.accept_of_store {data : List Byte} (noClash : s.clashSlot tag sender = none)
    (claim : s.storeSlot tag = some n) : s.accept ⟨tag, .publish data⟩ sender = s.claimPublish n tag data := by
  simp only [State.accept, noClash, claim]

theorem State.accept_of_no_store {data : List Byte} (noClash : s.clashSlot tag sender = none)
    (noClaim : s.storeSlot tag = none) : s.accept ⟨tag, .publish data⟩ sender = s.unclaimed ⟨tag, .publish data⟩ := by
  simp only [State.accept, noClash, noClaim]

theorem State.accept_of_answer (claim : s.answerSlot tag = some n) :
    s.accept ⟨tag, .query⟩ sender = s.claimQuery n tag := by
  simp only [State.accept, claim]

theorem State.accept_of_no_answer (noClaim : s.answerSlot tag = none) :
    s.accept ⟨tag, .query⟩ sender = s.unclaimed ⟨tag, .query⟩ := by
  simp only [State.accept, noClaim]

end

theorem CfgLength.accepts_iff (l : CfgLength) (n : Nat) : l.accepts n = true ↔ l = .any ∨ l = .exact n := by
  cases l with
  | any => simp [CfgLength.accepts]
  | exact k => simp [CfgLength.accepts]

/-- R32: a store answers a query that waits. -/
theorem Slot.answered_eq (x : Slot) :
    x.answered = { x with
      retries := if x.reasons.query = true ∧ x.tx ≠ .onBus then 0 else x.retries
      reasons := if x.tx = .onBus then x.reasons else { x.reasons with query := false }
      tx := if x.reasons.query = true ∧ x.tx ≠ .onBus ∧ x.reasons.send = false ∧ x.reasons.answer = false then .idle
        else x.tx } := by
  by_cases onBus : x.tx = .onBus
  · have kept : x.answered = x := if_neg (by simp [onBus])
    rw [kept]
    cases x; cases onBus
    simp
  · cases query : x.reasons.query with
    | false =>
      have kept : x.answered = x := if_neg (by simp [query])
      have same : { x.reasons with query := false } = x.reasons := by rw [← query]
      simp [kept, onBus, same]
    | true =>
      have asked : (x.reasons.query && x.tx ≠ .onBus) = true := by simp [query, onBus]
      rw [Slot.answered, if_pos asked]
      simp [onBus, Reasons.dropQuery, Reasons.isEmpty]

/-- Settles O51: a clash is looked for first, then a claimer, each the first in slot-number order. -/
theorem publishFramesMeetOneFate : Obligations.PublishFramesMeetOneFate := by
  intro s tag data sender f clashes claims
  have clash_iff (n : SlotNo) :
      (sender ≠ some n && (s.slot n).publishing && (s.slot n).cfg.tag = tag) = true ↔ clashes n := by
    simp only [Bool.and_eq_true, decide_eq_true_eq, Slot.publishing_iff, and_assoc, clashes]
  have claim_iff (n : SlotNo) :
      ((s.slot n).cfg.role = .subscribe && (s.slot n).life = .enabled && s.slotMatches (s.slot n) tag) = true ↔
        claims n := by
    simp only [Bool.and_eq_true, decide_eq_true_eq, State.slotMatches_iff, and_assoc]
    exact Iff.rfl
  refine ⟨fun n clash first => ?clash, fun noClash => ?noClash⟩
  case clash =>
    exact State.accept_of_clash <|
      allSlots_find?_of_first ((clash_iff n).mpr clash) fun m less => mt (clash_iff m).mp (first m less)
  have none : s.clashSlot tag sender = none := allSlots_find?_of_absent fun n => mt (clash_iff n).mp (noClash n)
  refine ⟨fun n claim first => ?_, fun noClaim => ?_⟩
  · intro x
    have claimed : s.storeSlot tag = some n :=
      allSlots_find?_of_first ((claim_iff n).mpr claim) fun m less => mt (claim_iff m).mp (first m less)
    have accepted : s.accept f sender = s.claimPublish n tag data := State.accept_of_store none claimed
    refine ⟨fun fits => ?_, fun noAny noExact => ?_⟩
    · rw [accepted, State.claimPublish, if_pos ((CfgLength.accepts_iff _ _).mpr fits), State.store, Slot.store,
        Slot.answered_eq]
      rfl
    · have refused : ¬ x.cfg.length.accepts data.length = true := fun accepts =>
        ((CfgLength.accepts_iff _ _).mp accepts).elim noAny noExact
      rw [accepted, State.claimPublish, if_neg refused]
      rfl
  · exact State.accept_of_no_store none (allSlots_find?_of_absent fun n => mt (claim_iff n).mp (noClaim n))

/-- Settles O52: the claimer is the first in slot-number order, and its answer field decides. -/
theorem queryFramesMeetOneFate : Obligations.QueryFramesMeetOneFate := by
  intro s tag sender f claims
  have claim_iff (n : SlotNo) :
      ((s.slot n).cfg.role = .publish && (s.slot n).life = .enabled && s.slotMatches (s.slot n) tag) = true ↔
        claims n := by
    simp only [Bool.and_eq_true, decide_eq_true_eq, State.slotMatches_iff, and_assoc]
    exact Iff.rfl
  refine ⟨fun n claim first => ?_, fun noClaim => ?_⟩
  · intro x
    have claimed : s.answerSlot tag = some n :=
      allSlots_find?_of_first ((claim_iff n).mpr claim) fun m less => mt (claim_iff m).mp (first m less)
    have accepted : s.accept f sender = s.claimQuery n tag := State.accept_of_answer claimed
    refine ⟨fun answer tx => ?_, fun noAnswer => ?_⟩
    · rw [accepted, State.claimQuery, if_pos answer]
      cases state : (s.slot n).tx with
      | onBus => exact absurd state tx
      | idle => rw [Slot.want_of_idle state]; rfl
      | pending => rw [Slot.want_of_pending state, ← state]; rfl
    · rw [accepted, State.claimQuery, if_neg (by rw [noAnswer]; nofun)]
  · exact State.accept_of_no_answer (allSlots_find?_of_absent fun n => mt (claim_iff n).mp (noClaim n))

/-! ### FRAME_END (R27, R111) -/

theorem exec_frameEnd_of_wf {f : BusFrame} (wf : f.wf = true) (s : State) :
    exec (.frameEnd f) s = .next (s.frameEnd f) := if_pos wf

theorem State.frameEnd_of_received {s : State} (f : BusFrame) (receives : s.engine.receives = true) :
    s.frameEnd f = (s.countValid.accept f none).engineEvent s.engine.frameEnded := by
  rw [State.frameEnd, if_pos receives]
  exact congrArg (fun e => State.engineEvent _ (Engine.frameEnded e)) (State.accept_engine s.countValid f none)

/-- Settles O50: the frame is counted and accepted, and then the engine's event closes the account, by its state. -/
theorem validFramesAreAccountedAndAccepted : Obligations.ValidFramesAreAccountedAndAccepted := by
  refine ⟨fun s f bad => if_neg (by rw [bad]; nofun), fun s f wf => ?_⟩
  intro e x heard
  have engine : x.engine = e := State.accept_engine s.countValid f none
  have received (receives : s.engine.receives = true) :
      exec (.frameEnd f) s = .next (x.engineEvent e.frameEnded) := by
    rw [exec_frameEnd_of_wf wf, State.frameEnd_of_received f receives]
    rfl
  refine ⟨fun mode active phase => ?_, fun mode stopping phase => ?_, fun not => ?_⟩
  · have ended : e.frameEnded = heard := Engine.frameEnded_of_going (by rw [active]; nofun)
    rw [received (s.engine.receives_iff.mpr ⟨mode, .inl ⟨active, phase⟩⟩), ended, State.engineEvent_of_standing, engine,
      active]
    · rfl
    · rw [engine]
    · rw [engine]
  · have ended := Engine.frameEnded_of_stopping (e := e) stopping
    rw [received (s.engine.receives_iff.mpr ⟨mode, .inr ⟨stopping, phase⟩⟩), ended, State.engineEvent_of_changed]
    · rfl
    · rw [engine, stopping]; exact .inl nofun
  · have unseen : s.engine.receives ≠ true := fun receives => by
      obtain ⟨mode, place⟩ := s.engine.receives_iff.mp receives
      exact not.elim mode (· place)
    rw [exec_frameEnd_of_wf wf, State.frameEnd, if_neg unseen]

/-! ### Selection (R54 to R56) -/

theorem exec_selection (s : State) : exec .selection s = .next s.selection := rfl

theorem Slot.candidate_iff (x : Slot) : x.candidate = true ↔ x.life = .enabled ∧ x.tx = .pending := by
  simp [Slot.candidate]

theorem Slot.sends_eq (x : Slot) :
    (x.sends = .publish ↔ x.cfg.role = .publish) ∧ (x.sends = .query ↔ x.cfg.role ≠ .publish) := by
  unfold Slot.sends
  split <;> simp_all

/-- What the walk has found is what it began with or a candidate it has met. -/
theorem State.mem_of_foldl_better {s : State} {slots : List SlotNo} {best : Option SlotNo} {m : SlotNo}
    (found : slots.foldl s.better best = some m) :
    best = some m ∨ (m ∈ slots ∧ (s.slot m).candidate = true) := by
  induction slots generalizing best with
  | nil => exact .inl found
  | cons n slots ih =>
    rcases ih found with step | ⟨mem, candidate⟩
    · unfold State.better at step
      split at step
      · next candidate =>
        split at step
        · cases step
          exact .inr ⟨List.mem_cons_self, candidate⟩
        · split at step
          · cases step
            exact .inr ⟨List.mem_cons_self, candidate⟩
          · exact .inl step
      · exact .inl step
    · exact .inr ⟨List.mem_cons_of_mem n mem, candidate⟩

/-- The best so far stays where no later candidate ranks above it. -/
theorem State.foldl_better_of_best {s : State} {slots : List SlotNo} {n : SlotNo}
    (best : ∀ m ∈ slots, (s.slot m).candidate = true → (s.slot m).ranksAbove (s.slot n) ≠ true) :
    slots.foldl s.better (some n) = some n := by
  induction slots with
  | nil => rfl
  | cons m slots ih =>
    have stays : s.better (some n) m = some n := by
      unfold State.better
      split
      · next candidate => exact if_neg (best m List.mem_cons_self candidate)
      · rfl
    rw [List.foldl_cons, stays]
    exact ih fun k mem => best k (List.mem_cons_of_mem m mem)

/-- R55: a candidate that ranks above the earlier ones, and that no later one ranks above, is chosen. -/
theorem State.bestCandidate_of_best {s : State} {n : SlotNo} (candidate : (s.slot n).candidate = true)
    (earlier : ∀ m, m < n → (s.slot m).candidate = true → (s.slot n).ranksAbove (s.slot m) = true)
    (later : ∀ m, n < m → (s.slot m).candidate = true → (s.slot m).ranksAbove (s.slot n) ≠ true) :
    s.bestCandidate = some n := by
  obtain ⟨before, after, split⟩ := List.append_of_mem (mem_allSlots n)
  have sorted := allSlots_sorted
  rw [split, List.pairwise_append, List.pairwise_cons] at sorted
  obtain ⟨-, ⟨above, -⟩, below⟩ := sorted
  have chosen : s.better (before.foldl s.better none) n = some n := by
    refine (if_pos candidate).trans ?_
    cases found : before.foldl s.better none with
    | none => rfl
    | some m =>
      obtain ⟨mem, waits⟩ := (State.mem_of_foldl_better found).resolve_left nofun
      exact if_pos (earlier m (below m mem n List.mem_cons_self) waits)
  rw [State.bestCandidate, split, List.foldl_append, List.foldl_cons, chosen]
  exact State.foldl_better_of_best fun m mem => later m (above m mem)

theorem Slot.ranksAbove_iff (x y : Slot) :
    x.ranksAbove y = true ↔ x.cfg.tag.toNat < y.cfg.tag.toNat ∨
      (x.cfg.tag = y.cfg.tag ∧ x.cfg.role = .publish ∧ y.cfg.role ≠ .publish) := by
  simp only [Slot.ranksAbove, Bool.or_eq_true, Bool.and_eq_true, decide_eq_true_eq, x.sends_eq.1, y.sends_eq.2, and_assoc]

theorem State.selection_of_candidate {s : State} {n : SlotNo} (stands : s.opportunity = true)
    (best : s.bestCandidate = some n) : s.selection = s.select n := by
  simp only [State.selection, if_pos stands, best]

theorem State.selection_of_none {s : State} (none : s.bestCandidate = none) : s.selection = s := by
  simp only [State.selection, none, ite_self]

theorem State.selection_of_no_opportunity {s : State} (none : s.opportunity ≠ true) : s.selection = s := if_neg none

/-- Settles O53: the order of the statement ranks the earlier slots strictly and the later ones at least as low, which
is what the walk in slot-number order asks. -/
theorem selectionTakesTheBestCandidate : Obligations.SelectionTakesTheBestCandidate := by
  intro s e waits kindRank before stands
  have candidate_iff (n : SlotNo) : (s.slot n).candidate = true ↔ waits n := Slot.candidate_iff _
  have opportunity_iff : s.opportunity = true ↔ stands := s.opportunity_iff
  refine ⟨fun opportunity n waiting best => ?_, fun opportunity none => ?_, fun noOpportunity => ?_⟩
  · have rank (m : SlotNo) : (kindRank m = 0 ∧ (s.slot m).cfg.role = .publish) ∨
        (kindRank m = 1 ∧ (s.slot m).cfg.role ≠ .publish) := by
      by_cases role : (s.slot m).cfg.role = .publish <;> simp [kindRank, role]
    have chosen : s.bestCandidate = some n := by
      refine State.bestCandidate_of_best ((candidate_iff n).mpr waiting) (fun m less candidate => ?_)
        fun m more candidate above => ?_
      · refine (Slot.ranksAbove_iff _ _).mpr ?_
        rcases best m ((candidate_iff m).mp candidate) (Fin.ne_of_lt less) with lower | ⟨same, lower | ⟨-, order⟩⟩
        · exact .inl lower
        · rcases rank n with ⟨_, role⟩ | ⟨zero, _⟩
          · rcases rank m with ⟨zero, _⟩ | ⟨_, other⟩
            · omega
            · exact .inr ⟨same, role, other⟩
          · rcases rank m with ⟨_, _⟩ | ⟨_, _⟩ <;> omega
        · exact absurd less (Nat.lt_asymm order)
      · rcases best m ((candidate_iff m).mp candidate) (Fin.ne_of_lt more).symm with lower | ⟨same, lower⟩
        · rcases (Slot.ranksAbove_iff _ _).mp above with higher | ⟨same, -⟩
          · omega
          · rw [same] at lower; omega
        · rcases (Slot.ranksAbove_iff _ _).mp above with higher | ⟨-, publish, query⟩
          · rw [same] at higher; omega
          · rcases rank n with ⟨_, role⟩ | ⟨one, _⟩
            · exact query role
            · rcases rank m with ⟨zero, _⟩ | ⟨_, other⟩
              · rcases lower with lower | ⟨lower, -⟩ <;> omega
              · exact other publish
    rw [exec_selection, State.selection_of_candidate (opportunity_iff.mpr opportunity) chosen]
    rfl
  · have nobody : s.bestCandidate = Option.none := by
      cases best : s.bestCandidate with
      | none => rfl
      | some n => exact absurd ((candidate_iff n).mp (State.bestCandidate_candidate best)) (none n)
    rw [exec_selection, State.selection_of_none nobody]
  · rw [exec_selection, State.selection_of_no_opportunity (mt opportunity_iff.mp noOpportunity)]

end Sys2Proof.Machine
end

section
/-! PROOFS. The outcomes of the part's own frame: the slot, its events, and the engine's account (03_transmission.md;
06_the_bus_engine.md, R109, R110, R113). -/

namespace Sys2Proof.Machine

-- The declarations are elaborated in turn: one thread does for the whole file.
set_option Elab.async false

/-! ### The events of an outcome (R58, R64 to R67) -/

section
variable {s : State} {n : SlotNo} {o : Outcome} {kind : FrameKind} {after : Slot}

/-- R66: of an outcome that gives nothing up, a DRAINING slot's DRAINED alone. -/
theorem State.raiseMarks_of_kept (kept : s.raiseAborted n o kind after = s) :
    s.raiseMarks n o kind after = if after.life = .draining then s.raise (.slot n .drained) (.drained o) else s := by
  unfold State.raiseMarks
  rw [kept, ite_self]

end

/-- R59: a Sent outcome's record, by the kind of the frame. -/
theorem Slot.sentOutcome_eq (x : Slot) (kind : FrameKind) (clock : Stamp) :
    x.sentOutcome kind clock = { x with
      reasons := ⟨false, false, false⟩, retries := 0
      seq := if decide (kind = .publish) then x.seq + 1 else x.seq
      stamp := if decide (kind = .publish) then (if clock = 0 then 1 else clock) else x.stamp } := by
  cases kind <;> rfl

/-- R58: an outcome taken writes its slot and empties the buffer, beside its events. -/
theorem State.settle_of_events {s v : State} {rec : TxRecord} {o : Outcome} (events : s.outcomeEvents rec o = v) :
    s.settle rec o = { v with
      slots := (s.setSlot rec.slot ((s.slot rec.slot).outcome o (frameKind rec.frame) s.clock).endFrame).slots
      txBuffer := none } := by
  obtain ⟨nt, same⟩ := s.outcomeEvents_eq rec o
  rw [s.settle_eq, ← events, same]
  rfl

/-- The events of an outcome reach the notice set alone. -/
theorem State.outcomeEvents_diag {s v : State} {rec : TxRecord} {o : Outcome} (events : s.outcomeEvents rec o = v) :
    v.diag = s.diag ∧ v.engine = s.engine ∧ v.clock = s.clock := by
  obtain ⟨nt, same⟩ := s.outcomeEvents_eq rec o
  rw [← events, same]
  exact ⟨rfl, rfl, rfl⟩

/-! ### TX_SENT (R59, R109, R168) -/

theorem exec_txSent (s : State) : exec .txSent s = .next s.txSent := rfl

theorem State.txSent_of_empty {s : State} (empty : s.txBuffer = none) : s.txSent = s := by
  simp only [State.txSent, empty]

section
variable {s : State} {rec : TxRecord}

theorem State.txSent_of_sending (buffer : s.txBuffer = some rec) (transmits : s.engine.transmits = true) :
    s.txSent = ((s.settle rec .sent).sentAccount).loopBack s.engine.mode rec := by
  simp only [State.txSent, buffer, if_pos transmits]

theorem State.txSent_of_not_sending (buffer : s.txBuffer = some rec) (idle : s.engine.transmits ≠ true) :
    s.txSent = s := by
  simp only [State.txSent, buffer, if_neg idle]

theorem Engine.not_transmits {e : Engine} (other : e.phase ≠ .sending) : e.transmits ≠ true := fun transmits =>
  other (e.transmits_iff.mp transmits).2

/-- R59, R66: SENT, and then DRAINED for a DRAINING slot. -/
theorem State.outcomeEvents_sent (s : State) (rec : TxRecord) :
    s.outcomeEvents rec .sent =
      let x := s.slot rec.slot
      let pub : Bool := frameKind rec.frame = .publish
      let u := s.raise (.slot rec.slot .sent)
        (.sent (frameKind rec.frame) x.reasons (if pub then (if pub then x.seq + 1 else x.seq) else 0) x.retries)
      if x.life = .draining then u.raise (.slot rec.slot .drained) (.drained .sent) else u := by
  have sent : s.raiseOutcome rec.slot .sent (frameKind rec.frame) (s.slot rec.slot)
      ((s.slot rec.slot).sentOutcome (frameKind rec.frame) s.clock) =
      s.raise (.slot rec.slot .sent) (.sent (frameKind rec.frame) (s.slot rec.slot).reasons
        (if decide (frameKind rec.frame = .publish) then
          (if decide (frameKind rec.frame = .publish) then (s.slot rec.slot).seq + 1 else (s.slot rec.slot).seq) else 0)
        (s.slot rec.slot).retries) := by
    cases frameKind rec.frame <;> rfl
  simp only [State.outcomeEvents, Slot.outcome, sent]
  rw [State.raiseMarks_of_kept rfl, Slot.sentOutcome_eq]

end

/-- Settles O55: the slot and its events, then the engine's event by its state, then, in LOOPBACK, acceptance. -/
theorem sentFramesSettleSlotThenEngine : Obligations.SentFramesSettleSlotThenEngine := by
  refine ⟨fun s empty => by rw [exec_txSent, State.txSent_of_empty empty], fun s rec buffer => ?_⟩
  intro e n x pub y u v w f owing account
  have settled : (s.settle rec .sent).countSent = w := by
    have events : s.outcomeEvents rec .sent = v := s.outcomeEvents_sent rec
    obtain ⟨diag, -⟩ := State.outcomeEvents_diag events
    rw [State.settle_of_events events, Slot.outcome, Slot.sentOutcome_eq, State.countSent, diag]
    rfl
  have engine : w.engine = e := by rw [← settled]; exact s.settle_engine rec .sent
  refine ⟨fun place phase => ?_, fun other => ?_⟩
  · have transmits : e.transmits = true := e.transmits_iff.mpr ⟨place, phase⟩
    have accounted : (s.settle rec .sent).sentAccount = account := by
      rw [State.sentAccount, settled, State.settle_engine]
      by_cases stopping : e.state = .stopping
      · have left := Engine.sentFate_of_stopping stopping
        rw [left, State.engineEvent_of_changed (.inl (by rw [engine, stopping]; nofun))]
        exact (if_pos stopping).symm
      · have owes : e.sentFate = owing := Engine.sentFate_of_going stopping
        rw [owes, State.engineEvent_of_standing (by rw [engine]) (by rw [engine]), engine]
        exact (if_neg stopping).symm
    rw [exec_txSent, State.txSent_of_sending buffer transmits, accounted]
    exact ⟨fun mode => congrArg _ (if_neg mode), fun mode => congrArg _ (if_pos mode)⟩
  · rw [exec_txSent, State.txSent_of_not_sending buffer (Engine.not_transmits other)]

/-! ### TX_LOST (R60, R92) -/

theorem exec_txLost (s : State) : exec .txLost s = .next s.txLost := rfl

/-- R64, R66, R67: a lost frame given up under a disable or an abort mark. -/
theorem State.outcomeEvents_lost (s : State) (rec : TxRecord) :
    s.outcomeEvents rec .lost =
      let x := s.slot rec.slot
      let failed := s.raise (.slot rec.slot .sendFailed) (.sendFailed .aborted (frameKind rec.frame) x.reasons x.retries)
      if x.life = .draining then failed.raise (.slot rec.slot .drained) (.drained .lost)
      else if x.abort = true then failed else s := rfl

theorem State.txLost_of_lost {s : State} {rec : TxRecord} (buffer : s.txBuffer = some rec)
    (transmits : s.engine.transmits = true) (normal : s.engine.mode = .normal) :
    s.txLost = (s.settle rec .lost).countLost.setEngine
      { (s.settle rec .lost).countLost.engine with phase := .receiving } := by
  have lost : (s.engine.transmits && s.engine.mode = .normal) = true := by simp [transmits, normal]
  simp only [State.txLost, buffer, if_pos lost]

theorem Engine.not_transmits_normal {e : Engine} (other : e.phase ≠ .sending ∨ e.mode ≠ .normal) :
    ¬ (e.transmits && e.mode = .normal) = true := by
  rw [Bool.and_eq_true, decide_eq_true_eq]
  exact fun ⟨transmits, normal⟩ => other.elim (fun idle => Engine.not_transmits idle transmits) (· normal)

/-- Settles O56: the slot as the end of the frame settles it, with its events; the engine goes on as a receiver. -/
theorem lostFramesWaitAgain : Obligations.LostFramesWaitAgain := by
  refine ⟨fun s empty => ?_, fun s rec buffer => ?_⟩
  · rw [exec_txLost]
    simp only [State.txLost, empty]
  intro e n x failed v
  refine ⟨fun place phase normal => ?_, fun other => ?_⟩
  · have events : s.outcomeEvents rec .lost = v := s.outcomeEvents_lost rec
    obtain ⟨diag, engine, -⟩ := State.outcomeEvents_diag events
    rw [exec_txLost, State.txLost_of_lost buffer (e.transmits_iff.mpr ⟨place, phase⟩) normal,
      State.settle_of_events events, State.countLost]
    simp only [State.setDiag, State.setEngine, diag, engine]
    rfl
  · rw [exec_txLost]
    simp only [State.txLost, buffer]
    exact congrArg _ (if_neg (Engine.not_transmits_normal other))

/-! ### TX_FAULTED (R61 to R64, R109, R110, R113) -/

theorem exec_txFaulted_of_wf {kind : FaultKind} {afterTag : Bool} (wf : txFaultWf kind afterTag = true) (s : State) :
    exec (.txFaulted kind afterTag) s = .next (s.txFaulted kind afterTag) := if_pos wf

/-- R62: above the retry limit the reasons are given up. -/
theorem Slot.faultedOutcome_of_exhausts {x : Slot} (exhausts : x.exhausts = true) :
    x.faultedOutcome = { x with reasons := ⟨false, false, false⟩, retries := 0 } := if_pos exhausts

/-- R61: within the retry limit one more retry is used. -/
theorem Slot.faultedOutcome_of_retries {x : Slot} (retries : x.exhausts = false) :
    x.faultedOutcome = { x with retries := min 255 (x.retries + 1) } := if_neg (by rw [retries]; nofun)

section
variable {s : State} {rec : TxRecord}

/-- R62, R66: exhausted retries raise SEND_FAILED with RETRIES, and then DRAINED for a DRAINING slot. -/
theorem State.outcomeEvents_exhausted (exhausts : (s.slot rec.slot).exhausts = true) :
    s.outcomeEvents rec .exhausted =
      let x := s.slot rec.slot
      let failed := s.raise (.slot rec.slot .sendFailed)
        (.sendFailed .retries (frameKind rec.frame) x.reasons (x.retries + 1))
      if x.life = .draining then failed.raise (.slot rec.slot .drained) (.drained .exhausted) else failed := by
  simp only [State.outcomeEvents, Slot.outcome, Slot.faultedOutcome_of_exhausts exhausts]
  exact State.raiseMarks_of_kept rfl

/-- R64, R66, R67: a frame that would be retried is given up under a disable or an abort mark. -/
theorem State.outcomeEvents_retried (retries : (s.slot rec.slot).exhausts = false) :
    s.outcomeEvents rec .faulted =
      let x := s.slot rec.slot
      let failed := s.raise (.slot rec.slot .sendFailed)
        (.sendFailed .aborted (frameKind rec.frame) x.reasons (min 255 (x.retries + 1)))
      if x.life = .draining then failed.raise (.slot rec.slot .drained) (.drained .faulted)
      else if x.abort = true then failed else s := by
  simp only [State.outcomeEvents, Slot.outcome, Slot.faultedOutcome_of_retries retries]
  rfl

theorem State.txFaulted_of_faulted {kind : FaultKind} {afterTag : Bool} (buffer : s.txBuffer = some rec)
    (transmits : s.engine.transmits = true) (normal : s.engine.mode = .normal) :
    s.txFaulted kind afterTag = (s.settle rec (s.slot rec.slot).faultOutcomeKind).faultAccount kind
      (if afterTag then some rec.frame.tag else none) := by
  have faulted : (s.engine.transmits && s.engine.mode = .normal) = true := by simp [transmits, normal]
  simp only [State.txFaulted, buffer, if_pos faulted]

end

theorem Engine.judge_of_withdrawn {e : Engine} (high : 224 ≤ e.txCount) :
    e.judge = { e.leave (if e.state = .stopping then .offline else .withdrawn) with recoveryOwed := true } :=
  if_pos high

theorem Engine.judge_of_kept {e : Engine} (low : e.txCount < 224) :
    e.judge = { e with suspensionOwed := e.standing = .restrained } := if_neg (Nat.not_le.mpr low)

/-- Settles O57: the slot by whether the retries are exhausted, then the engine's account, by the withdrawal limit. -/
theorem faultedFramesRetryExhaustOrWithdraw : Obligations.FaultedFramesRetryExhaustOrWithdraw := by
  refine ⟨fun s kind afterTag bad => if_neg (by rw [bad]; nofun), fun s kind afterTag wf empty => ?_,
    fun s rec kind afterTag buffer wf => ?_⟩
  · rw [exec_txFaulted_of_wf wf]
    simp only [State.txFaulted, empty]
  intro e n x exhausted y aborted u v w f
  have exhausts : exhausted = x.exhausts := rfl
  have settled : ∃ o, x.faultOutcomeKind = o ∧ x.outcome o (frameKind rec.frame) s.clock = y ∧
      s.outcomeEvents rec o = v := by
    cases limit : x.exhausts
    · have retried : ¬ exhausted = true := by rw [exhausts, limit]; nofun
      have kept : y = { x with retries := min 255 (x.retries + 1) } := if_neg retried
      refine ⟨.faulted, if_neg (by rw [limit]; nofun), (Slot.faultedOutcome_of_retries limit).trans kept.symm,
        (State.outcomeEvents_retried limit).trans ?_⟩
      have raised : u = if x.life = .draining ∨ x.abort = true then aborted else s := if_neg retried
      simp only [v, raised, aborted, kept, if_neg retried]
      by_cases draining : x.life = .draining
      · simp [draining, x, n]
      · by_cases abort : x.abort = true <;> simp [draining, abort, x, n]
    · have given : exhausted = true := by rw [exhausts, limit]
      have raised : u = s.raise (.slot n .sendFailed)
          (.sendFailed .retries (frameKind rec.frame) x.reasons (x.retries + 1)) := if_pos given
      refine ⟨.exhausted, if_pos limit, (Slot.faultedOutcome_of_exhausts limit).trans (if_pos given).symm,
        (State.outcomeEvents_exhausted limit).trans ?_⟩
      simp only [v, raised, if_pos given]
      rfl
  obtain ⟨o, fate, outcome, events⟩ := settled
  obtain ⟨diag, engine, clock⟩ := State.outcomeEvents_diag events
  have counted : v.engine.faultCounted kind (if afterTag then some rec.frame.tag else none) v.clock = f := by
    rw [engine, clock]
    rfl
  have accounted : (s.settle rec o).faultAccount kind (if afterTag then some rec.frame.tag else none) =
      w.engineEvent f.judge := by
    rw [State.settle_of_events events, State.faultAccount]
    change State.engineEvent (State.raise { v with
        slots := (s.setSlot n (x.outcome o (frameKind rec.frame) s.clock).endFrame).slots, txBuffer := none,
        diag := v.diag.countFault kind } _ _) (Engine.judge (Engine.faultCounted v.engine kind _ v.clock)) = _
    rw [outcome, diag, counted]
  have same : w.engine = e := (State.raise_engine _ _ _).trans engine
  refine ⟨fun place phase normal => ?_, fun other => ?_⟩
  · have taken := State.txFaulted_of_faulted (kind := kind) (afterTag := afterTag) buffer
      (e.transmits_iff.mpr ⟨place, phase⟩) normal
    rw [exec_txFaulted_of_wf wf, taken, fate, accounted]
    refine ⟨fun low => ?_, fun high => ?_⟩
    · rw [Engine.judge_of_kept low, State.engineEvent_of_standing (by rw [same]) (by rw [same]), same]
      rfl
    · have other : (if e.state = .stopping then EngineState.offline else .withdrawn) ≠ e.state := by
        rcases place with active | stopping
        · rw [active]; nofun
        · rw [stopping]; nofun
      rw [Engine.judge_of_withdrawn high, State.engineEvent_of_changed (.inl (by rw [same]; exact other))]
      rfl
  · rw [exec_txFaulted_of_wf wf]
    simp only [State.txFaulted, buffer]
    exact congrArg _ (if_neg (Engine.not_transmits_normal other))

end Sys2Proof.Machine
end

section
/-! PROOFS. The period and deadline timers, and the advance of the part clock (01 R13, R14; 02 R41; 03 R52). -/

namespace Sys2Proof.Machine

-- The declarations are elaborated in turn: one thread does for the whole file.
set_option Elab.async false

/-! ### PERIOD_EXPIRY and DEADLINE_EXPIRY (R41, R52) -/

theorem exec_periodExpiry (n : SlotNo) (s : State) : exec (.periodExpiry n) s = .next (s.periodExpiry n) := rfl
theorem exec_deadlineExpiry (n : SlotNo) (s : State) : exec (.deadlineExpiry n) s = .next (s.deadlineExpiry n) := rfl

theorem State.periodExpiry_of_due {s : State} {n : SlotNo} (due : (s.slot n).periodDue = true) :
    s.periodExpiry n = s.setSlot n (s.slot n).periodExpired := if_pos due

theorem State.periodExpiry_of_not_due {s : State} {n : SlotNo}
    (not : (s.slot n).life ≠ .enabled ∨ (s.slot n).timer ≠ .due ∨ (s.slot n).cfg.role ≠ .publish) :
    s.periodExpiry n = s := if_neg fun due => by
  obtain ⟨role, life, timer⟩ := (s.slot n).periodDue_iff.mp due
  exact not.elim (· life) fun not => not.elim (· timer) (· role)

theorem State.deadlineExpiry_of_not_due {s : State} {n : SlotNo}
    (not : (s.slot n).life ≠ .enabled ∨ (s.slot n).timer ≠ .due ∨ (s.slot n).cfg.role ≠ .subscribe) :
    s.deadlineExpiry n = s := if_neg fun due => by
  obtain ⟨role, life, timer⟩ := (s.slot n).deadlineDue_iff.mp due
  exact not.elim (· life) fun not => not.elim (· timer) (· role)

section
variable {x : Slot}

theorem Slot.periodExpired_of_idle (idle : x.tx = .idle) :
    x.periodExpired = Slot.want { x with timer := .start x.cfg.interval } .send := by
  simp only [Slot.periodExpired, idle]

/-- R52: a PENDING slot that holds SEND counts a skipped period. -/
theorem Slot.periodExpired_of_pending (pending : x.tx = .pending) :
    x.periodExpired = if x.reasons.send then
        { x with timer := .start x.cfg.interval, skipped := min 255 (x.skipped + 1) }
      else Slot.want { x with timer := .start x.cfg.interval } .send := by
  simp only [Slot.periodExpired, pending]
  rfl

/-- R52: so does an ON_BUS slot with its again mark set. -/
theorem Slot.periodExpired_of_onBus (onBus : x.tx = .onBus) :
    x.periodExpired = if x.again then
        { x with timer := .start x.cfg.interval, skipped := min 255 (x.skipped + 1) }
      else Slot.want { x with timer := .start x.cfg.interval } .send := by
  simp only [Slot.periodExpired, onBus]
  rfl

end

/-- Settles O58: a due period timer by the slot's transmit state and its reasons or mark; a due deadline. -/
theorem timerExpiriesActOnTheSlot : Obligations.TimerExpiriesActOnTheSlot := by
  intro s n x reloaded skip sends becomes
  refine ⟨fun life timer => ⟨fun role => ?_, fun role => ?_⟩, fun not => ?_, fun not => ?_⟩
  · have expires {y : Slot} (expired : x.periodExpired = y) : becomes y := by
      have taken := State.periodExpiry_of_due ((s.slot n).periodDue_iff.mpr ⟨role, life, timer⟩)
      change exec (.periodExpiry n) s = _
      rw [exec_periodExpiry, taken, expired]
    refine ⟨fun idle => expires ?_, fun pending send => expires ?_, fun pending send => expires ?_,
      fun onBus again => expires ?_, fun onBus again => expires ?_⟩
    · rw [Slot.periodExpired_of_idle idle, Slot.want_of_idle (x := { x with timer := .start x.cfg.interval }) idle]
      rfl
    · exact (Slot.periodExpired_of_pending pending).trans (if_pos send)
    · rw [Slot.periodExpired_of_pending pending, if_neg (by rw [send]; nofun),
        Slot.want_of_pending (x := { x with timer := .start x.cfg.interval }) pending]
      simp only [sends, ← pending]
      rfl
    · rw [Slot.periodExpired_of_onBus onBus, if_neg (by rw [again]; nofun),
        Slot.want_of_onBus (x := { x with timer := .start x.cfg.interval }) onBus (r := .send) nofun]
      rfl
    · exact (Slot.periodExpired_of_onBus onBus).trans (if_pos again)
  · have due : (s.slot n).deadlineDue = true := (s.slot n).deadlineDue_iff.mpr ⟨role, life, timer⟩
    rw [exec_deadlineExpiry, State.deadlineExpiry, if_pos due]
    rfl
  · rw [exec_periodExpiry, State.periodExpiry_of_not_due not]
  · rw [exec_deadlineExpiry, State.deadlineExpiry_of_not_due not]

/-! ### Commands in a row (log 4) -/

theorem execAll_cons_of_next {c : Instr} {s t : State} (run : exec c s = .next t) (rest : List Instr) :
    execAll (c :: rest) s = execAll rest t := by
  rw [execAll, run]

theorem execAll_append_of_next {first : List Instr} {s t : State} (run : execAll first s = .next t)
    (rest : List Instr) : execAll (first ++ rest) s = execAll rest t := by
  induction first generalizing s with
  | nil => cases run; rfl
  | cons c first ih =>
    rw [execAll] at run
    split at run
    · next u one =>
      rw [List.cons_append, execAll_cons_of_next one]
      exact ih run
    · cases run
    · cases run

/-- R13: the expiries of the slots in their order. -/
theorem execAll_expiries (slots : List SlotNo) (s : State) :
    execAll (slots.flatMap fun n => [Instr.periodExpiry n, Instr.deadlineExpiry n]) s =
      .next (slots.foldl State.takeExpiry s) := by
  induction slots generalizing s with
  | nil => rfl
  | cons n slots ih =>
    rw [List.flatMap_cons, List.cons_append, List.cons_append, List.nil_append,
      execAll_cons_of_next (exec_periodExpiry n s), execAll_cons_of_next (exec_deadlineExpiry n _)]
    exact ih _

/-! ### What is overdue (log 4) -/

theorem exec_gapTimeout (bs : List Byte) (s : State) :
    exec (.gapTimeout bs) s = .next (s.setLink (s.link.gapAfter bs)) := rfl

/-- Log 12: a gap that has surely passed. -/
theorem Framer.gapOverdue_iff (f : Framer) :
    (f.inside && Config.gapSurely ≤ f.sinceLast) = true ↔ f.buf ≠ [] ∧ 11 ≤ f.sinceLast := by
  simp only [Framer.inside, Bool.and_eq_true, Bool.not_eq_true', List.isEmpty_eq_false_iff, decide_eq_true_eq]
  exact Iff.rfl

theorem Link.takeOverdueGap_of_overdue {l : Link} (overdue : l.framer.buf ≠ [] ∧ 11 ≤ l.framer.sinceLast) :
    l.takeOverdueGap = l.gap := if_pos (l.framer.gapOverdue_iff.mpr overdue)

theorem Link.takeOverdueGap_of_not {l : Link} (not : ¬ (l.framer.buf ≠ [] ∧ 11 ≤ l.framer.sinceLast)) :
    l.takeOverdueGap = l := if_neg (mt l.framer.gapOverdue_iff.mp not)

/-- A GAP_TIMEOUT without bytes takes a gap that has surely passed. -/
theorem Link.gapAfter_nil_of_overdue {l : Link} (overdue : l.framer.buf ≠ [] ∧ 11 ≤ l.framer.sinceLast) :
    l.gapAfter [] = l.gap := by
  obtain ⟨inside, time⟩ := overdue
  have passed : (l.framer.inside && (!List.isEmpty ([] : List Byte) || Config.gapAtLeast ≤ l.framer.sinceLast)) = true := by
    rw [Bool.and_eq_true, Bool.or_eq_true, decide_eq_true_eq]
    exact ⟨by simp [Framer.inside, inside], .inr (Nat.le_trans (by decide) time)⟩
  exact if_pos passed

theorem State.busStuck_burstPassed (s : State) : s.busStuck.engine.burstPassed = s.engine.burstPassed := by
  unfold State.busStuck
  split
  · rw [State.engineEvent_engine]; rfl
  · rfl

/-- The end of a burst that is surely over: STOP_COMPLETE in STOPPING; else the phase alone, which no command moves. -/
theorem State.takePassedBurst_eq (s : State) :
    let u := if s.engine.state = .stopping ∧ s.engine.burstPassed = true then s.stopComplete else s
    s.takePassedBurst =
      u.setEngine (if u.engine.burstPassed = true then { u.engine with phase := .delimiter } else u.engine) := by
  by_cases passed : s.engine.burstPassed = true
  · by_cases stopping : s.engine.state = .stopping
    · have burst := Engine.burstPassed_inBurst passed
      have stopped : s.stopComplete = s.engineEvent (s.engine.leave .offline) := if_pos ⟨stopping, burst⟩
      have quiet : s.stopComplete.engine.burstPassed ≠ true := by
        rw [stopped, State.engineEvent_engine]; nofun
      simp only [if_pos (And.intro stopping passed), if_neg quiet, State.takePassedBurst, if_pos passed, if_pos stopping]
      rfl
    · simp only [State.takePassedBurst, passed, stopping, if_true, if_false, false_and]
  · have going : ¬ (s.engine.state = .stopping ∧ s.engine.burstPassed = true) := fun both => passed both.2
    simp only [if_neg going, if_neg passed, State.takePassedBurst]
    rfl

/-- R14: one millisecond in the engine; a burst that noted an earlier advance is over (log 21). -/
theorem Engine.tick_eq (e : Engine) :
    (if e.burstPassed = true then { e with phase := BusPhase.delimiter } else e).tick = { e with
      watchMs := if (e.state = .syncing ∨ e.state = .recovering) ∧ e.mode ≠ .loopback then
        min 1000 (e.watchMs + 1) else e.watchMs
      phase := match e.phase with
        | .burst _ true => .delimiter
        | .burst active false => .burst active true
        | p => p } := by
  have counts : e.watchCounts = true ↔ (e.state = .syncing ∨ e.state = .recovering) ∧ e.mode ≠ .loopback := by
    simp only [Engine.watchCounts, Bool.and_eq_true, Engine.watching_iff, decide_eq_true_eq]
  have watch : (if e.watchCounts then min Config.stuckAfter (e.watchMs + 1) else e.watchMs) =
      if (e.state = .syncing ∨ e.state = .recovering) ∧ e.mode ≠ .loopback then min 1000 (e.watchMs + 1)
      else e.watchMs := by
    simp only [counts]
    rfl
  rw [← watch]
  obtain ⟨state, mode, rate, sample, tx, rx, owed, progress, stuck, ms, last, suspension, phase⟩ := e
  cases phase with
  | burst active ticked => cases ticked <;> rfl
  | _ => rfl

/-- R150: the framer's millisecond. -/
theorem Framer.tick_eq (f : Framer) :
    f.tick = { f with sinceLast := if f.buf = [] then f.sinceLast else min 11 (f.sinceLast + 1) } := by
  obtain ⟨buf, crc, time⟩ := f
  cases buf <;> rfl

theorem State.takeExpiries_link (slots : List SlotNo) (s : State) :
    (slots.foldl State.takeExpiry s).link = s.link :=
  (State.takeExpiries_parts (c := .txSent) (F := fun _ => True) slots s).link_eq

/-- R13: a slot's millisecond. -/
theorem Slot.tick_eq (x : Slot) :
    x.tick = { x with timer := match x.timer with
      | .running ms => if ms ≤ 1 then .due else .running (ms - 1)
      | t => t } := by
  unfold Slot.tick Timer.tick
  cases x.timer <;> rfl

/-- The commands of what is overdue come to what the advance takes, but for the phase of a burst that is over. -/
theorem State.execAll_overdue (s : State) :
    ∃ u, execAll s.overdue s = .next u ∧
      s.takeOverdue =
        u.setEngine (if u.engine.burstPassed = true then { u.engine with phase := .delimiter } else u.engine) := by
  obtain ⟨engine, -⟩ := State.takeExpiries_kept allSlots s
  have expiries := execAll_expiries allSlots s
  have sameLink := State.takeExpiries_link allSlots s
  unfold State.takeOverdue
  generalize allSlots.foldl State.takeExpiry s = t at expiries engine sameLink
  have state : t.busStuck.engine.state = s.engine.state := by rw [t.busStuck_state, engine]
  have passed : t.busStuck.engine.burstPassed = s.engine.burstPassed := by rw [t.busStuck_burstPassed, engine]
  have stuckLink : t.busStuck.link = s.link :=
    (State.busStuck_parts (c := .txSent) (F := fun _ => True) rfl).link_eq.trans sameLink
  have taken := t.busStuck.takePassedBurst_eq
  rw [state, passed] at taken
  generalize hu : (if s.engine.state = .stopping ∧ s.engine.burstPassed = true then t.busStuck.stopComplete
    else t.busStuck) = u at taken
  have link : u.link = s.link := by
    rw [← hu]
    split
    · exact (State.stopComplete_parts (c := .txSent) (F := fun _ => True) rfl).link_eq.trans stuckLink
    · exact stuckLink
  have stops : execAll (if s.engine.state = .stopping ∧ s.engine.burstPassed = true then [.stopComplete] else [])
      t.busStuck = .next u := by
    rw [← hu]
    by_cases ended : s.engine.state = .stopping ∧ s.engine.burstPassed = true
    · simp only [if_pos ended]
      rfl
    · simp only [if_neg ended]
      rfl
  have gap : execAll (if s.link.framer.buf ≠ [] ∧ 11 ≤ s.link.framer.sinceLast then [.gapTimeout []] else []) u =
      .next (u.setLink s.link.takeOverdueGap) := by
    by_cases overdue : s.link.framer.buf ≠ [] ∧ 11 ≤ s.link.framer.sinceLast
    · rw [if_pos overdue, execAll_cons_of_next (exec_gapTimeout [] u), link, Link.gapAfter_nil_of_overdue overdue,
        Link.takeOverdueGap_of_overdue overdue]
      rfl
    · rw [if_neg overdue, Link.takeOverdueGap_of_not overdue, ← link]
      rfl
  refine ⟨u.setLink s.link.takeOverdueGap, ?_, ?_⟩
  · have stuck : execAll [.busStuck] t = .next t.busStuck := rfl
    unfold State.overdue
    rw [List.append_assoc, List.append_assoc, execAll_append_of_next expiries, execAll_append_of_next stuck,
      execAll_append_of_next stops, gap]
  · rw [taken, ← link]
    rfl

theorem State.takeExpiries_of_none {s : State} (slots : List SlotNo) (none : ∀ n, (s.slot n).timer ≠ .due) :
    slots.foldl State.takeExpiry s = s := by
  induction slots with
  | nil => rfl
  | cons n slots ih =>
    rw [List.foldl_cons, State.takeExpiry, State.periodExpiry_of_not_due (.inr (.inl (none n))),
      State.deadlineExpiry_of_not_due (.inr (.inl (none n))), ih]

theorem State.busStuck_of_not_due {s : State}
    (not : s.engine.watchMs < 1000 ∨ s.engine.busStuck = true ∨ s.engine.mode = .loopback) : s.busStuck = s :=
  if_neg fun due => by
    obtain ⟨-, mode, time, clear⟩ := s.engine.stuckDue_iff.mp due
    rcases not with early | stuck | loop
    · exact Nat.not_lt.mpr time early
    · rw [clear] at stuck; cases stuck
    · exact mode loop

/-- Settles O59: what is overdue first, and then the tick, field by field. -/
theorem aMillisecondCountsEveryTimer : Obligations.AMillisecondCountsEveryTimer := by
  refine ⟨fun s => ?_, fun s timers watch burst gap => ?_⟩
  · obtain ⟨u, run, taken⟩ := s.execAll_overdue
    refine ⟨u, mapSlots Slot.tick u.slots, run, ?_, fun n => ?_⟩
    · rw [exec_partClockAdvance, taken, State.tick, State.setEngine_engine, Engine.tick_eq, Framer.tick_eq]
      rfl
    · exact (mapSlots_get Slot.tick u.slots n).trans (u.slot n).tick_eq
  · have expiries := execAll_expiries allSlots s
    rw [State.takeExpiries_of_none allSlots timers] at expiries
    have stuck : execAll [.busStuck] s = .next s := by
      rw [execAll_cons_of_next (exec_busStuck s), State.busStuck_of_not_due watch]
      rfl
    have going : ¬ (s.engine.state = .stopping ∧ s.engine.burstPassed = true) := fun ⟨_, passed⟩ => by
      rw [burst] at passed; cases passed
    have early : ¬ (s.link.framer.buf ≠ [] ∧ 11 ≤ s.link.framer.sinceLast) := fun ⟨_, time⟩ =>
      Nat.not_lt.mpr time gap
    rw [State.overdue, if_neg going, if_neg early, List.append_nil, List.append_nil, execAll_append_of_next expiries,
      stuck]

end Sys2Proof.Machine
end

section
/-! PROOFS. The frames and the faults that the framer finds (08_the_host_link.md, R149, R150, R152). -/

namespace Sys2Proof.Machine

-- The declarations are elaborated in turn: one thread does for the whole file.
set_option Elab.async false

/-! ### A frame with a good check, by the first test that applies (R152) -/

section
variable {l : Link} {kind seq : Byte}

/-- R152, log 14: a copy of a reply waits, fresh or resent. -/
theorem Link.copyWaiting_iff (l : Link) (frame : List Byte) :
    l.copyWaiting frame = true ↔ OutItem.reply true frame ∈ l.waiting ∨ OutItem.reply false frame ∈ l.waiting := by
  unfold Link.copyWaiting
  rw [List.any_eq_true]
  constructor
  · rintro ⟨item, held, same⟩
    match item with
    | .reply fresh f =>
      obtain rfl : f = frame := eq_of_beq same
      cases fresh
      · exact .inr held
      · exact .inl held
    | .reject r => cases same
  · rintro (held | held)
    · exact ⟨_, held, beq_self_eq_true frame⟩
    · exact ⟨_, held, beq_self_eq_true frame⟩

theorem Link.inInbox_iff (l : Link) (kind seq : Byte) :
    l.inInbox kind seq = true ↔ ∃ q ∈ l.inbox, q.seq = seq ∧ q.kind = kind := by
  simp [Link.inInbox]

theorem Link.stored_of_first {pre post : List HistEntry} {e : HistEntry} (history : l.history = pre ++ e :: post)
    (sameSeq : e.seq = seq) (sameKind : e.kind = kind) (first : ∀ x ∈ pre, ¬ (x.seq = seq ∧ x.kind = kind)) :
    l.stored kind seq = some e := by
  refine List.find?_eq_some_iff_append.mpr ⟨by simp [sameSeq, sameKind], pre, post, history, fun x held => ?_⟩
  rw [Bool.not_eq_true', ← Bool.not_eq_true, Bool.and_eq_true, beq_iff_eq, beq_iff_eq]
  exact first x held

theorem Link.stored_of_absent (absent : ∀ x ∈ l.history, ¬ (x.seq = seq ∧ x.kind = kind)) :
    l.stored kind seq = none :=
  List.find?_eq_none.mpr fun x held => by simpa using absent x held

section
variable {r : Request} {e : HistEntry}

theorem Link.takeFrame_of_copy (stored : l.stored r.kind r.seq = some e) (waits : l.copyWaiting e.frame = true) :
    l.takeFrame r = { l with counters := l.counters.discarded } := by
  simp only [Link.takeFrame, stored, if_pos waits]

theorem Link.takeFrame_of_stored (stored : l.stored r.kind r.seq = some e) (sent : ¬ l.copyWaiting e.frame = true) :
    l.takeFrame r =
      { l with waiting := l.waiting ++ [.reply false e.frame], counters := l.counters.resent } := by
  simp only [Link.takeFrame, stored, if_neg sent]

theorem Link.takeFrame_of_inInbox (absent : l.stored r.kind r.seq = none) (waits : l.inInbox r.kind r.seq = true) :
    l.takeFrame r = { l with counters := l.counters.discarded } := by
  simp only [Link.takeFrame, absent, if_pos waits]

theorem Link.takeFrame_of_full (absent : l.stored r.kind r.seq = none) (new : ¬ l.inInbox r.kind r.seq = true)
    (full : 4 ≤ l.inbox.length) : l.takeFrame r = l.produceReject ⟨.full, r.seq, false, r.kind⟩ := by
  simp only [Link.takeFrame, absent, if_neg new]
  exact if_pos full

theorem Link.takeFrame_of_room (absent : l.stored r.kind r.seq = none) (new : ¬ l.inInbox r.kind r.seq = true)
    (room : l.inbox.length < 4) : l.takeFrame r = { l with inbox := l.inbox ++ [r] } := by
  simp only [Link.takeFrame, absent, if_neg new]
  exact if_neg (Nat.not_le.mpr room)

end

end

/-! ### Bytes in several commands (R149, R150) -/

/-- Every byte of a frame starts the gap's time again. -/
theorem Framer.byte_sinceLast (f : Framer) (b : Byte) : (f.byte b).1.sinceLast = 0 := by
  match buf : f.buf with
  | [] => rw [Framer.byte_of_hunting buf]; split <;> rfl
  | [x] =>
    rw [Framer.byte_of_synced buf]
    unfold Framer.lenByte
    split
    · rfl
    · split <;> rfl
  | x :: len :: got =>
    rw [Framer.byte_of_len_read buf]
    split
    · rfl
    · split <;> rfl

theorem Link.produceReject_framer (l : Link) (r : Reject) : (l.produceReject r).framer = l.framer := by
  unfold Link.produceReject
  split <;> rfl

theorem Link.takeFrame_framer (l : Link) (r : Request) : (l.takeFrame r).framer = l.framer := by
  unfold Link.takeFrame
  split
  · split <;> rfl
  · split
    · rfl
    · split
      · exact l.produceReject_framer _
      · rfl

/-- What a byte brings the link to leaves the framer as the byte left it. -/
theorem Link.byte_framer (l : Link) (b : Byte) : (l.byte b).framer = (l.framer.byte b).1 := by
  unfold Link.byte
  obtain ⟨f, ev⟩ := l.framer.byte b
  cases ev with
  | none => rfl
  | lengthFault => rfl
  | frame good r =>
    cases good with
    | true => exact Link.takeFrame_framer _ _
    | false => exact Link.produceReject_framer _ _

theorem Link.foldl_byte_sinceLast {bs : List Byte} (some : bs ≠ []) (l : Link) :
    (bs.foldl Link.byte l).framer.sinceLast = 0 := by
  induction bs generalizing l with
  | nil => exact absurd rfl some
  | cons b bs ih =>
    rw [List.foldl_cons]
    by_cases last : bs = []
    · rw [last, List.foldl_nil, Link.byte_framer, Framer.byte_sinceLast]
    · exact ih last _

theorem Link.bytes_of_some {bs : List Byte} (some : bs ≠ []) (l : Link) :
    l.bytes bs = bs.foldl Link.byte l.takeOverdueGap := by
  cases bs with
  | nil => exact absurd rfl some
  | cons b bs => rfl

/-- No gap passes between the bytes of two commands with no advance of the clock between them. -/
theorem Link.bytes_append {first : List Byte} (some : first ≠ []) (next : List Byte) (l : Link) :
    l.bytes (first ++ next) = (l.bytes first).bytes next := by
  have recent : (l.bytes first).framer.sinceLast < 11 := by
    rw [Link.bytes_of_some some, Link.foldl_byte_sinceLast some]
    decide
  rw [Link.bytes_of_no_gap recent, Link.bytes_of_some (List.append_ne_nil_of_left_ne_nil some next),
    Link.bytes_of_some some, List.foldl_append]

/-- Settles O21: a frame read to its end is taken by the first test that applies; bytes in several commands are read
as in one. -/
theorem goodHostFramesAreTaken : Obligations.GoodHostFramesAreTaken := by
  refine ⟨fun s kind seq body got rest fits frame more buf sound recent => ?_,
    fun s first next some => ⟨_, exec_hostFrameReceived first s, ?_⟩, fun s bytes some inside time => ?_⟩
  · intro c l
    have taken {m : Link} (effect : l.takeFrame ⟨kind, seq, body⟩ = m) : exec c s = .next { s with link := m } := by
      have good := beq_self_eq_true (crcBytes (hostCrc (checkedBytes kind seq body)))
      have read := Link.foldl_byte_of_frame fits more buf sound frame
      rw [exec_hostFrameReceived, Link.bytes_of_no_gap recent, read, ← effect]
      exact congrArg (fun check => Host.Outcome.next { s with link := l.react (.frame check ⟨kind, seq, body⟩) }) good
    refine ⟨fun pre e post history sameSeq sameKind first => ?_, fun absent => ⟨fun waits => ?_, fun new => ?_⟩⟩
    · have stored := Link.stored_of_first history sameSeq sameKind first
      exact ⟨fun waits => taken (Link.takeFrame_of_copy stored ((l.copyWaiting_iff _).mpr waits)),
        fun sent => taken (Link.takeFrame_of_stored stored (mt (l.copyWaiting_iff _).mp sent))⟩
    · exact taken (Link.takeFrame_of_inInbox (Link.stored_of_absent absent) ((l.inInbox_iff kind seq).mpr waits))
    · have none := Link.stored_of_absent absent
      have notIn : ¬ l.inInbox kind seq = true := fun held => by
        obtain ⟨q, member, same⟩ := (l.inInbox_iff kind seq).mp held
        exact new q member same
      exact ⟨fun full => taken (Link.takeFrame_of_full none notIn full),
        fun room => taken (Link.takeFrame_of_room none notIn room)⟩
  · rw [exec_hostFrameReceived, exec_hostFrameReceived, Link.bytes_append some]
  · have hunting : ¬ (s.link.gap.framer.buf ≠ [] ∧ 11 ≤ s.link.gap.framer.sinceLast) := fun ⟨held, _⟩ => held rfl
    rw [exec_hostFrameReceived, Link.bytes_of_some some, Link.takeOverdueGap_of_overdue ⟨inside, time⟩,
      ← Link.takeOverdueGap_of_not hunting, ← Link.bytes_of_some some]
    rfl

/-! ### Bytes that are no frame (R149) -/

theorem exec_lengthFault (bs : List Byte) (s : State) :
    exec (.lengthFault bs) s = .next { s with link := s.link.bytes bs } := rfl

/-- A hunting framer ignores every byte but SYNC. -/
theorem Link.foldl_byte_of_ignored {bs : List Byte} (other : ∀ x ∈ bs, x ≠ 0x5A) {l : Link}
    (hunting : l.framer = .hunting) : bs.foldl Link.byte l = l := by
  induction bs with
  | nil => rfl
  | cons b bs ih =>
    have one : l.framer.byte b = (.hunting, .none) := by
      rw [Framer.byte_of_hunting (by rw [hunting]; rfl)]
      exact if_neg (other b List.mem_cons_self)
    have kept : l.byte b = l := by
      rw [Link.byte_of_none (by rw [one]), one, ← hunting]
    rw [List.foldl_cons, kept, ih fun x held => other x (List.mem_cons_of_mem b held)]

theorem Link.bytes_of_hunting {l : Link} (hunting : l.framer = .hunting) (bs : List Byte) :
    l.bytes bs = bs.foldl Link.byte l :=
  Link.bytes_of_no_gap (by rw [hunting]; decide) bs

/-- R149: a LEN out of range is counted, and is a SYNC of its own where it is 0x5A. -/
theorem Link.byte_of_bad_len {l : Link} {x b : Byte} (synced : l.framer.buf = [x])
    (range : b.toNat < 2 ∨ 62 < b.toNat) :
    l.byte b = { l with
      framer := if b = 0x5A then ⟨[0x5A], 0xFFFF, 0⟩ else .hunting
      counters := { l.counters with lengthFaults := min 65535 (l.counters.lengthFaults + 1) } } := by
  have bad : ¬ (2 ≤ b.toNat ∧ b.toNat ≤ 62) := by omega
  have found : l.framer.byte b = (if b = 0x5A then ⟨[0x5A], 0xFFFF, 0⟩ else .hunting, .lengthFault) := by
    rw [Framer.byte_of_synced synced, Framer.lenByte, if_neg bad]
    split
    · next sync => rw [if_pos (by exact sync)]; rfl
    · next other => rw [if_neg (by exact other)]
  simp only [Link.byte, found]
  rfl

theorem Link.byte_sync {l : Link} (hunting : l.framer = .hunting) :
    l.byte 0x5A = { l with framer := ⟨[0x5A], 0xFFFF, 0⟩ } := by
  have one : l.framer.byte 0x5A = (.synced, .none) := by
    rw [Framer.byte_of_hunting (by rw [hunting]; rfl)]
    exact if_pos rfl
  rw [Link.byte_of_none (by rw [one]), one]
  rfl

/-! ### Gaps (R150) -/

/-- R150, log 12: a gap is taken inside a frame, after bytes of the command or 10 advances of the clock. -/
theorem Link.gapAfter_eq (l : Link) (bs : List Byte) :
    l.gapAfter bs =
      if (l.bytes bs).framer.buf ≠ [] ∧ (bs ≠ [] ∨ 10 ≤ (l.bytes bs).framer.sinceLast) then (l.bytes bs).gap
      else l.bytes bs := by
  have taken : ((l.bytes bs).framer.inside && (!bs.isEmpty || Config.gapAtLeast ≤ (l.bytes bs).framer.sinceLast)) = true ↔
      (l.bytes bs).framer.buf ≠ [] ∧ (bs ≠ [] ∨ 10 ≤ (l.bytes bs).framer.sinceLast) := by
    simp only [Framer.inside, Bool.and_eq_true, Bool.or_eq_true, Bool.not_eq_true', List.isEmpty_eq_false_iff,
      decide_eq_true_eq]
    exact Iff.rfl
  exact ite_congr (propext taken) (fun _ => rfl) fun _ => rfl

/-- The bytes of a frame that is not ended by them join the partial frame. -/
theorem Link.foldl_byte_of_partial {kind seq c1 c0 : Byte} {body : List Byte} (fits : body.length ≤ 60)
    {more rest : List Byte} (left : rest ≠ []) {l : Link} {got : List Byte} (buf : l.framer.buf = got)
    (frame : got ++ more ++ rest = syncByte :: checkedBytes kind seq body ++ [c1, c0]) :
    ∃ f : Framer, f.buf = got ++ more ∧ more.foldl Link.byte l = { l with framer := f } := by
  induction more generalizing l got with
  | nil => exact ⟨l.framer, by rw [buf, List.append_nil], rfl⟩
  | cons b more ih =>
    obtain ⟨joined, found⟩ := Framer.byte_of_frame_unfinished (b := b) (rest := more ++ rest) fits buf
      (List.append_ne_nil_of_right_ne_nil more left) (by simpa using frame)
    obtain ⟨f, held, read⟩ := ih (l := { l with framer := (l.framer.byte b).1 }) joined (by simpa using frame)
    refine ⟨f, by rw [held, List.append_assoc, List.singleton_append], ?_⟩
    rw [List.foldl_cons, Link.byte_of_none found, read]

/-- Settles O23: what each byte brings the framer to, and the gap by where the framer stands. -/
theorem framerFaultsAreCounted : Obligations.FramerFaultsAreCounted := by
  refine ⟨fun s bs b hunting other range => ?_, fun s bs hunting other => ?_, fun s inside time => ?_,
    fun s len hunting least most => ?_, fun s no => ?_, fun s b synced recent range => ?_,
    fun s kind seq body c1 c0 got more rest fits frame some left buf sound recent => ?_,
    fun s bytes some => ⟨_, exec_hostFrameReceived bytes s, exec_lengthFault bytes s, ?_⟩⟩
  · rw [exec_lengthFault, Link.bytes_of_hunting hunting, List.foldl_append, Link.foldl_byte_of_ignored other hunting,
      List.foldl_cons, List.foldl_cons, List.foldl_nil, Link.byte_sync hunting, Link.byte_of_bad_len rfl range]
  · rw [exec_lengthFault, Link.bytes_of_hunting hunting, Link.foldl_byte_of_ignored other hunting]
  · rw [exec_gapTimeout, Link.gapAfter_eq, if_pos ⟨inside, .inr time⟩]
    rfl
  · have after : (Framer.mk [0x5A] 0xFFFF 0).byte len = (⟨[0x5A, len], crcByte 0xFFFF len, 0⟩, .none) :=
      (Framer.byte_of_synced rfl len).trans (Framer.lenByte_of_range ⟨least, most⟩)
    have read : s.link.bytes [0x5A, len] = { s.link with framer := ⟨[0x5A, len], crcByte 0xFFFF len, 0⟩ } := by
      rw [Link.bytes_of_hunting hunting, List.foldl_cons, List.foldl_cons, List.foldl_nil, Link.byte_sync hunting,
        Link.byte_of_none (by rw [after]), after]
    have kept : s.link.gap = { s.link with counters := s.link.counters.gapTimeout } := by
      rw [Link.gap, ← hunting]
    rw [exec_gapTimeout, Link.gapAfter_eq, read, if_pos ⟨nofun, .inl nofun⟩]
    exact congrArg (fun m => Host.Outcome.next (s.setLink m)) kept
  · have stays : ¬ (s.link.framer.buf ≠ [] ∧ (([] : List Byte) ≠ [] ∨ 10 ≤ s.link.framer.sinceLast)) :=
      fun ⟨inside, passed⟩ => no.elim inside fun early => passed.elim (· rfl) fun time => Nat.not_lt.mpr time early
    rw [exec_gapTimeout, Link.gapAfter_eq]
    exact congrArg (fun m => Host.Outcome.next (s.setLink m)) (if_neg stays)
  · rw [exec_lengthFault, Link.bytes_of_no_gap recent, List.foldl_cons, List.foldl_nil,
      Link.byte_of_bad_len synced range]
  · obtain ⟨f, held, read⟩ := Link.foldl_byte_of_partial fits left buf frame
    have inside : f.buf ≠ [] := by
      rw [held]; exact List.append_ne_nil_of_right_ne_nil got some
    rw [exec_gapTimeout, Link.gapAfter_eq, Link.bytes_of_no_gap recent, read, if_pos ⟨inside, .inl some⟩]
    rfl
  · rw [exec_gapTimeout, Link.gapAfter_eq]
    by_cases hunting : (s.link.bytes bytes).framer.buf = []
    · rw [if_neg fun both => both.1 hunting, if_pos hunting]
      rfl
    · rw [if_pos ⟨hunting, .inl some⟩, if_neg hunting]
      rfl

end Sys2Proof.Machine
end

section
/-! PROOFS. The bits of a field, and the two host lines level by level (05 R86; 08 R144). -/

namespace Sys2Proof.Machine

-- The declarations are elaborated in turn: one thread does for the whole file.
set_option Elab.async false

/-! ### The level at a place in a list of levels -/

section
variable {levels more : List Bool} {i : Nat}

theorem getD_of_lt (inside : i < levels.length) (d : Bool) : levels.getD i d = levels[i] := by
  rw [List.getD_eq_getElem?_getD, List.getElem?_eq_getElem inside, Option.getD_some]

theorem getD_of_le (beyond : levels.length ≤ i) (d : Bool) : levels.getD i d = d := by
  rw [List.getD_eq_getElem?_getD, List.getElem?_eq_none beyond, Option.getD_none]

theorem getD_append_of_lt (inside : i < levels.length) (d : Bool) : (levels ++ more).getD i d = levels.getD i d := by
  rw [List.getD_eq_getElem?_getD, List.getD_eq_getElem?_getD, List.getElem?_append_left inside]

theorem getD_append_of_le (beyond : levels.length ≤ i) (d : Bool) :
    (levels ++ more).getD i d = more.getD (i - levels.length) d := by
  rw [List.getD_eq_getElem?_getD, List.getD_eq_getElem?_getD, List.getElem?_append_right beyond]

theorem getD_replicate (n i : Nat) (b : Bool) : (List.replicate n b).getD i b = b := by
  rw [List.getD_eq_getElem?_getD, List.getElem?_replicate]
  split <;> rfl

end

/-! ### Fields and the values of their bits (R86) -/

@[simp] theorem length_bitsOf {w : Nat} (v : BitVec w) : (bitsOf v).length = w := by simp [bitsOf]

theorem valueOf_append_bit (bits : List Bool) (b : Bool) : valueOf (bits ++ [b]) = 2 * valueOf bits + b.toNat := by
  rw [valueOf, List.foldl_append]
  rfl

theorem testBit_valueOf_reverse (bits : List Bool) (i : Nat) :
    (valueOf bits.reverse).testBit i = bits.getD i false := by
  induction bits generalizing i with
  | nil => exact Nat.zero_testBit i
  | cons b bits ih =>
    rw [List.reverse_cons, valueOf_append_bit]
    cases i with
    | zero =>
      rw [Nat.testBit_zero, Nat.mul_add_mod, List.getD_cons_zero]
      cases b <;> rfl
    | succ i =>
      have half : (2 * valueOf bits.reverse + b.toNat) / 2 = valueOf bits.reverse := by
        have := b.toNat_lt
        omega
      rw [Nat.testBit_add_one, half, ih, List.getD_cons_succ]

/-- The value's bit `i` is the `i`-th bit from the end. -/
theorem testBit_valueOf (bits : List Bool) (i : Nat) : (valueOf bits).testBit i = bits.reverse.getD i false := by
  rw [← testBit_valueOf_reverse, List.reverse_reverse]

theorem valueOf_bitsOf {w : Nat} (v : BitVec w) : valueOf (bitsOf v) = v.toNat := by
  refine Nat.eq_of_testBit_eq fun i => ?_
  rw [testBit_valueOf, BitVec.testBit_toNat]
  by_cases inside : i < w
  · rw [getD_of_lt (by simpa using inside), List.getElem_reverse]
    simp only [bitsOf, List.getElem_map, List.getElem_range, List.length_map, List.length_range, BitVec.getMsbD]
    rw [decide_eq_true (by omega), Bool.true_and]
    exact congrArg v.getLsbD (by omega)
  · rw [getD_of_le (by simpa using inside), BitVec.getLsbD_of_ge v i (Nat.not_lt.mp inside)]

theorem ofNat_valueOf_bitsOf {w : Nat} (v : BitVec w) : BitVec.ofNat w (valueOf (bitsOf v)) = v := by
  rw [valueOf_bitsOf, BitVec.ofNat_toNat, BitVec.setWidth_eq]

/-- The field that bits spell has them as its bits. -/
theorem bitsOf_valueOf {w : Nat} {bits : List Bool} (length : bits.length = w) :
    bitsOf (BitVec.ofNat w (valueOf bits)) = bits := by
  refine List.ext_getElem (by simp [length]) fun i inside held => ?_
  have width : i < w := length ▸ held
  simp only [bitsOf, List.getElem_map, List.getElem_range, BitVec.getMsbD, BitVec.getLsbD_ofNat, testBit_valueOf]
  rw [decide_eq_true width, decide_eq_true (by omega), Bool.true_and, Bool.true_and,
    getD_of_lt (by rw [List.length_reverse]; omega), List.getElem_reverse]
  exact getElem_congr_idx (by omega)

/-! ### A byte on a serial line (R144) -/

/-- The eight data bits, the least significant first. -/
theorem dataBits_reverse (b : Byte) : ((List.range 8).map fun i => b.getLsbD i).reverse = bitsOf b := by
  simp [bitsOf, BitVec.getMsbD, List.range_succ]

theorem serialByte_of_bits (b : Byte) (stop : Bool) :
    serialByte (false :: (List.range 8).map (fun i => b.getLsbD i) ++ [stop]) = b := by
  have data : ((false :: (List.range 8).map (fun i => b.getLsbD i) ++ [stop]).drop 1).take 8 =
      (List.range 8).map fun i => b.getLsbD i := by
    rw [List.cons_append, List.drop_one, List.tail_cons, List.take_left' (by simp)]
  rw [serialByte, data, dataBits_reverse, ofNat_valueOf_bitsOf]

/-- A start bit and nine levels more are a byte, whatever the level of the stop bit. -/
theorem serialRead_of_byte (b : Byte) (stop : Bool) (rest : List Bool) :
    serialRead (false :: (List.range 8).map (fun i => b.getLsbD i) ++ stop :: rest) = b :: serialRead rest := by
  have read := serialByte_of_bits b stop
  simp only [List.range, List.range.loop, List.map_cons, List.map_nil, List.cons_append, List.nil_append] at read ⊢
  rw [serialRead, read]

theorem serialRead_of_idle (n : Nat) (rest : List Bool) :
    serialRead (List.replicate n true ++ rest) = serialRead rest := by
  induction n with
  | zero => rfl
  | succ n ih => rw [List.replicate_succ, List.cons_append, serialRead, ih]

theorem serialLine_cons (b : Byte) (bytes : List Byte) : serialLine (b :: bytes) = serialBits b ++ serialLine bytes := by
  rw [serialLine, List.map_cons, List.flatten_cons]
  rfl

/-- Bytes sent back to back are read back, whatever follows them. -/
theorem serialRead_serialLine (bytes : List Byte) (rest : List Bool) :
    serialRead (serialLine bytes ++ rest) = bytes ++ serialRead rest := by
  induction bytes with
  | nil => rfl
  | cons b bytes ih =>
    rw [serialLine_cons, serialBits, List.append_assoc, List.append_assoc, List.singleton_append, serialRead_of_byte, ih,
      List.cons_append]

theorem length_serialLine (bytes : List Byte) : (serialLine bytes).length = 10 * bytes.length := by
  induction bytes with
  | nil => rfl
  | cons b bytes ih =>
    rw [serialLine_cons, List.length_append, ih, List.length_cons]
    simp [serialBits]
    omega

/-- Log 25: ten low levels are a byte of 0x00. -/
theorem serialRead_of_low (rest : List Bool) : serialRead (List.replicate 10 false ++ rest) = 0 :: serialRead rest :=
  serialRead_of_byte 0 false rest

theorem serialRead_replicate_low (n : Nat) : serialRead (List.replicate (10 * n) false) = List.replicate n 0 := by
  induction n with
  | zero => rfl
  | succ n ih =>
    rw [Nat.mul_succ, Nat.add_comm, ← List.replicate_append_replicate, serialRead_of_low, ih, List.replicate_succ]

theorem serialRead_of_short_low {n : Nat} (short : n < 10) : serialRead (List.replicate n false) = [] := by
  have all : ∀ n < 10, serialRead (List.replicate n false) = [] := by decide
  exact all n short

/-- A line held low gives bytes of 0x00 alone. -/
theorem serialRead_low (n : Nat) : serialRead (List.replicate n false) = List.replicate (n / 10) 0 := by
  induction n using Nat.strongRecOn with
  | ind n ih =>
    by_cases short : n < 10
    · rw [serialRead_of_short_low short, Nat.div_eq_of_lt short, List.replicate_zero]
    · obtain ⟨m, rfl⟩ := Nat.exists_eq_add_of_le (Nat.not_lt.mp short)
      rw [← List.replicate_append_replicate, serialRead_of_low, ih m (by omega), Nat.add_div_left m (by decide), List.replicate_succ]

/-! ### The framer behind HOST_IN (R149, R152) -/

theorem Framer.firstEvent_of_none {f : Framer} {b : Byte} (found : (f.byte b).2 = .none) (rest : List Byte) :
    f.firstEvent (b :: rest) = ((f.byte b).1.firstEvent rest).map fun x => (b :: x.1, x.2) := by
  rcases read : f.byte b with ⟨g, ev⟩
  rw [read] at found
  obtain rfl : ev = .none := found
  rw [Framer.firstEvent, read]

/-- A hunting framer makes nothing of bytes of 0x00. -/
theorem Framer.firstEvent_of_zeros (n : Nat) : Framer.hunting.firstEvent (List.replicate n 0) = none := by
  induction n with
  | zero => rfl
  | succ n ih =>
    have ignored : Framer.hunting.byte 0 = (.hunting, .none) := by decide
    rw [List.replicate_succ, Framer.firstEvent_of_none (by rw [ignored]), ignored, ih]
    rfl

/-- The first event of a frame's bytes is the frame, at its last byte. -/
theorem Framer.firstEvent_of_frame {kind seq c1 c0 : Byte} {body : List Byte} (fits : body.length ≤ 60)
    {rest : List Byte} (more : rest ≠ []) {f : Framer} {got : List Byte} (buf : f.buf = got) (sound : f.Sound)
    (frame : got ++ rest = syncByte :: checkedBytes kind seq body ++ [c1, c0]) :
    ∃ good r, f.firstEvent rest = some (rest, .frame good r) := by
  induction rest generalizing f got with
  | nil => exact absurd rfl more
  | cons b rest ih =>
    by_cases left : rest = []
    · subst left
      rw [Framer.firstEvent, Framer.byte_of_frame_last fits buf sound frame]
      exact ⟨_, _, rfl⟩
    · obtain ⟨joined, found⟩ := Framer.byte_of_frame_unfinished fits buf left frame
      obtain ⟨good, r, event⟩ := ih left joined (Framer.byte_sound sound b) (by simpa using frame)
      rw [Framer.firstEvent_of_none found, event]
      exact ⟨_, _, rfl⟩

/-- A whole frame's levels on HOST_IN come to the framer's command with its bytes. -/
theorem hostInCommand_of_envelope {kind seq : Byte} {body : List Byte} (fits : body.length ≤ 60) :
    hostInCommand .hunting (serialLine (envelope kind seq body)) =
      some (.hostFrameReceived (envelope kind seq body)) := by
  have bytes : serialRead (serialLine (envelope kind seq body)) = envelope kind seq body := by
    simpa [serialRead] using serialRead_serialLine (envelope kind seq body) []
  obtain ⟨good, r, event⟩ := Framer.firstEvent_of_frame (rest := envelope kind seq body) (kind := kind) (seq := seq)
    fits nofun (rfl : Framer.hunting.buf = []) Framer.sound_hunting rfl
  rw [hostInCommand, bytes, event]

theorem hostInCommand_low (n : Nat) : hostInCommand .hunting (List.replicate n false) = none := by
  rw [hostInCommand, serialRead_low, Framer.firstEvent_of_zeros]

/-! ### HOST_OUT (R144, R157) -/

/-- The levels of HOST_OUT: the frame last begun, and then idle high. -/
theorem State.hostOutLevels {s : State} {frame : List Byte} (begun : s.link.hostOut = some frame) (idle : Nat) :
    (List.range (10 * frame.length + idle)).map s.hostOutLevel = serialLine frame ++ List.replicate idle true := by
  refine List.ext_getElem (by simp [length_serialLine]) fun i inside held => ?_
  rw [List.getElem_map, List.getElem_range, State.hostOutLevel, begun]
  simp only [List.getElem_append, List.getElem_replicate]
  split
  · next within => exact getD_of_lt within true
  · next beyond => exact getD_of_le (Nat.not_lt.mp beyond) true

theorem State.hostOutLevel_of_sent {s : State} {frame : List Byte} (begun : s.link.hostOut = some frame) (k : Nat) :
    s.hostOutLevel (10 * frame.length + k) = true := by
  rw [State.hostOutLevel, begun]
  exact getD_of_le (by rw [length_serialLine]; omega) true

theorem State.hostOutLevel_of_none {s : State} (none : s.link.hostOut = none) (k : Nat) : s.hostOutLevel k = true := by
  rw [State.hostOutLevel, none]

end Sys2Proof.Machine
end

section
/-! PROOFS. A frame on the Dorhal bus as its receiver reads it (05_the_dorhal_bus.md, R89 to R94, R99). -/

namespace Sys2Proof.Machine

-- The declarations are elaborated in turn: one thread does for the whole file.
set_option Elab.async false

/-! ### The fill (R91) -/

/-- After a run of six the fill bit begins the next run. -/
theorem fillFrom_of_run (last : Bool) (rest : List Bool) : fillFrom last 6 rest = (!last) :: fillFrom (!last) 1 rest := by
  cases rest <;> simp [fillFrom]

theorem fillFrom_nil_of_short {run : Nat} (last : Bool) (short : run ≠ 6) : fillFrom last run [] = [] := by
  rw [fillFrom, if_neg short]

theorem fillFrom_cons_of_short {run : Nat} (last b : Bool) (short : run ≠ 6) (rest : List Bool) :
    fillFrom last run (b :: rest) = b :: fillFrom b (if b = last then run + 1 else 1) rest := by
  rw [fillFrom, if_neg short]

/-- Nothing is left to send exactly where no frame bit and no fill bit is. -/
theorem fillFrom_eq_nil_iff {last : Bool} {run : Nat} {rest : List Bool} :
    fillFrom last run rest = [] ↔ rest = [] ∧ run ≠ 6 := by
  by_cases full : run = 6
  · subst full; simp [fillFrom_of_run]
  · cases rest with
    | nil => simp [fillFrom_nil_of_short last full, full]
    | cons b rest => simp [fillFrom_cons_of_short last b full]

/-! ### The fields of a frame in its span (R89, R90) -/

theorem length_payloadBits (payload : List Byte) : ((payload.map bitsOf).flatten).length = 8 * payload.length := by
  induction payload with
  | nil => rfl
  | cons b payload ih =>
    rw [List.map_cons, List.flatten_cons, List.length_append, ih, length_bitsOf, List.length_cons]
    omega

/-- The bits of a payload read as bytes, whatever follows them. -/
theorem bytesRead_payloadBits (payload : List Byte) (rest : List Bool) :
    bytesRead payload.length ((payload.map bitsOf).flatten ++ rest) = payload := by
  induction payload with
  | nil => rfl
  | cons b payload ih =>
    rw [List.map_cons, List.flatten_cons, List.append_assoc, List.length_cons, bytesRead,
      List.take_left' (length_bitsOf b), List.drop_left' (length_bitsOf b), ih, ofNat_valueOf_bitsOf]

/-- The bytes that bits spell have them as their bits. -/
theorem payloadBits_bytesRead {n : Nat} {bits : List Bool} (enough : 8 * n ≤ bits.length) :
    (bytesRead n bits).length = n ∧ ((bytesRead n bits).map bitsOf).flatten = bits.take (8 * n) := by
  induction n generalizing bits with
  | zero => simp [bytesRead]
  | succ n ih =>
    obtain ⟨length, spelled⟩ := ih (bits := bits.drop 8) (by rw [List.length_drop]; omega)
    refine ⟨by rw [bytesRead, List.length_cons, length], ?_⟩
    rw [bytesRead, List.map_cons, List.flatten_cons, spelled, bitsOf_valueOf (by rw [List.length_take]; omega),
      Nat.mul_succ, Nat.add_comm, List.take_add]

/-! What the receiver's readings of the fields find in bits that hold a tag and a kind. -/

section
variable {start kind : Bool} {tag rest : List Bool}

theorem exists_fields {bits : List Bool} (enough : 26 ≤ bits.length) :
    ∃ start tag kind rest, tag.length = 24 ∧ bits = start :: (tag ++ kind :: rest) := by
  match bits with
  | start :: more =>
    have inside : 24 < more.length := by rw [List.length_cons] at enough; omega
    refine ⟨start, more.take 24, more[24], more.drop 25, by rw [List.length_take]; omega, ?_⟩
    rw [List.getElem_cons_drop, List.take_append_drop]

theorem getD_kind (length : tag.length = 24) : (start :: (tag ++ kind :: rest)).getD 25 true = kind := by
  rw [List.getD_cons_succ, getD_append_of_le (by omega), length]
  rfl

theorem take_tag (length : tag.length = 24) : ((start :: (tag ++ kind :: rest)).drop 1).take 24 = tag :=
  List.take_left' length

theorem drop_kind (length : tag.length = 24) : (start :: (tag ++ kind :: rest)).drop 26 = rest := by
  rw [List.drop_succ_cons, ← List.singleton_append, ← List.append_assoc,
    List.drop_left' (by rw [List.length_append, length]; rfl)]

end

/-- Once the kind has been read, more bits do not change it. -/
theorem getD_kind_append {bits : List Bool} (enough : 26 ≤ bits.length) (rest : List Bool) :
    (bits ++ rest).getD 25 true = bits.getD 25 true := getD_append_of_lt (by omega) true

theorem lengthRead_append {bits : List Bool} (enough : 31 ≤ bits.length) (rest : List Bool) :
    lengthRead (bits ++ rest) = lengthRead bits := by
  rw [lengthRead, lengthRead, List.drop_append_of_le_length (by omega),
    List.take_append_of_le_length (by rw [List.length_drop]; omega)]

theorem spanLength_eq_some_iff {bits : List Bool} {n : Nat} :
    spanLength bits = some n ↔ 26 ≤ bits.length ∧
      ((bits.getD 25 true = true ∧ n = 42) ∨
       (bits.getD 25 true = false ∧ 31 ≤ bits.length ∧ n = 47 + 8 * lengthRead bits)) := by
  unfold spanLength
  split
  · next short => simp; omega
  · next enough =>
    cases bits.getD 25 true
    · rw [if_neg Bool.false_ne_true]
      split
      · next short => simp; omega
      · next read => simp; omega
    · simp; omega

theorem spanLength_append {bits : List Bool} {n : Nat} (known : spanLength bits = some n) (rest : List Bool) :
    spanLength (bits ++ rest) = some n := by
  obtain ⟨enough, kind⟩ := spanLength_eq_some_iff.mp known
  refine spanLength_eq_some_iff.mpr ⟨by rw [List.length_append]; omega, ?_⟩
  rw [getD_kind_append enough]
  refine kind.imp id fun ⟨publish, read, length⟩ => ⟨publish, by rw [List.length_append]; omega, ?_⟩
  rw [lengthRead_append read, length]

/-! ### A frame's span as it is read (R89, R90) -/

theorem checkGood_of_check (covered : List Bool) :
    checkGood (covered ++ bitsOf (crcBits 0xFFFF covered)) = true := by
  have length : (covered ++ bitsOf (crcBits 0xFFFF covered)).length - 16 = covered.length := by
    rw [List.length_append, length_bitsOf, Nat.add_sub_cancel]
  rw [checkGood, length, List.take_left, List.drop_left, ofNat_valueOf_bitsOf, beq_self_eq_true]

/-- The fields of a QUERY frame's span. -/
theorem spanBits_of_query {f : BusFrame} (query : f.body = .query) :
    spanBits f = false :: (bitsOf f.tag ++ true :: bitsOf (frameCheck f)) := by
  simp only [spanBits, coveredBits, query, List.append_assoc, List.cons_append, List.nil_append]

/-- The fields of a PUBLISH frame's span. -/
theorem spanBits_of_publish {f : BusFrame} {payload : List Byte} (publish : f.body = .publish payload) :
    spanBits f = false :: (bitsOf f.tag ++ false :: (bitsOf (BitVec.ofNat 5 payload.length) ++
      ((payload.map bitsOf).flatten ++ bitsOf (frameCheck f)))) := by
  simp only [spanBits, coveredBits, publish, List.append_assoc, List.cons_append, List.nil_append]

/-- What the length field of a frame that the bus can carry says. -/
theorem lengthRead_of_publish {f : BusFrame} {payload : List Byte} (publish : f.body = .publish payload)
    (wf : payload.length ≤ 16) : lengthRead (spanBits f) = payload.length := by
  rw [lengthRead, spanBits_of_publish publish, drop_kind (length_bitsOf _), List.take_left' (length_bitsOf _),
    valueOf_bitsOf, BitVec.toNat_ofNat, Nat.mod_eq_of_lt (by omega)]

theorem BusFrame.payload_of_wf {f : BusFrame} {payload : List Byte} (wf : f.wf = true)
    (publish : f.body = .publish payload) : payload.length ≤ 16 := by
  rw [BusFrame.wf, publish] at wf
  exact of_decide_eq_true wf

section
variable {f : BusFrame}

/-- The bits of a whole span say how many they are. -/
theorem spanLength_spanBits (wf : f.wf = true) : spanLength (spanBits f) = some (spanBits f).length := by
  rw [spanLength_eq_some_iff]
  cases body : f.body with
  | query =>
    rw [spanBits_of_query body, getD_kind (length_bitsOf _)]
    simp
  | publish payload =>
    rw [lengthRead_of_publish body (BusFrame.payload_of_wf wf body), spanBits_of_publish body,
      getD_kind (length_bitsOf _)]
    simp only [List.length_cons, List.length_append, length_bitsOf, length_payloadBits]
    exact ⟨by omega, .inr ⟨trivial, by omega, by omega⟩⟩

/-- A receiver that reads a frame's whole span reads that frame. -/
theorem frameRead_spanBits (wf : f.wf = true) : frameRead (spanBits f) = f := by
  obtain ⟨tag, body⟩ := f
  cases body with
  | query =>
    rw [frameRead, spanBits_of_query rfl, getD_kind (length_bitsOf _), take_tag (length_bitsOf _), ofNat_valueOf_bitsOf]
    rfl
  | publish payload =>
    have fits := BusFrame.payload_of_wf wf rfl
    have held : (spanBits ⟨tag, .publish payload⟩).drop 31 =
        (payload.map bitsOf).flatten ++ bitsOf (frameCheck ⟨tag, .publish payload⟩) := by
      rw [spanBits_of_publish rfl, ← List.drop_drop (i := 5) (j := 26), drop_kind (length_bitsOf _),
        List.drop_left' (length_bitsOf _)]
    rw [frameRead, lengthRead_of_publish rfl fits, held, bytesRead_payloadBits, spanBits_of_publish rfl,
      getD_kind (length_bitsOf _), take_tag (length_bitsOf _), ofNat_valueOf_bitsOf]
    rfl

/-- What a receiver has read of a frame's span, and the bits of it to come. -/
theorem rest_eq_nil_iff {bits rest : List Bool} (wf : f.wf = true) (span : bits ++ rest = spanBits f) :
    spanLength bits = some bits.length ↔ rest = [] := by
  refine ⟨fun complete => ?_, fun none => ?_⟩
  · have whole := spanLength_append complete rest
    rw [span, spanLength_spanBits wf, Option.some_inj, ← span, List.length_append] at whole
    exact List.eq_nil_of_length_eq_zero (by omega)
  · rw [none, List.append_nil] at span
    rw [span, spanLength_spanBits wf]

/-- No frame that the bus can carry has a length field out of range. -/
theorem lengthRead_le {bits rest : List Bool} (wf : f.wf = true) (span : bits ++ rest = spanBits f)
    (enough : 31 ≤ bits.length) (publish : bits.getD 25 true = false) : lengthRead bits ≤ 16 := by
  rw [← lengthRead_append enough rest, span]
  rw [← getD_kind_append (by omega) rest, span] at publish
  cases body : f.body with
  | query => rw [spanBits_of_query body, getD_kind (length_bitsOf _)] at publish; cases publish
  | publish payload =>
    have fits := BusFrame.payload_of_wf wf body
    rw [lengthRead_of_publish body fits]
    exact fits

end

/-! ### Whole span bits are those of the frame they spell (R89, R90) -/

theorem length_of_complete {bits : List Bool} (complete : spanLength bits = some bits.length) : 42 ≤ bits.length := by
  obtain ⟨-, ⟨-, length⟩ | ⟨-, -, length⟩⟩ := spanLength_eq_some_iff.mp complete <;> omega

theorem bitsOf_crcBits_of_checkGood {bits : List Bool} (enough : 16 ≤ bits.length) (good : checkGood bits = true) :
    bitsOf (crcBits 0xFFFF (bits.take (bits.length - 16))) = bits.drop (bits.length - 16) := by
  rw [eq_of_beq good, bitsOf_valueOf (by rw [List.length_drop]; omega)]

/-- The fields of the frame that whole span bits spell are the bits before the check. -/
theorem coveredBits_frameRead {bits : List Bool} (start : bits.head? = some false)
    (complete : spanLength bits = some bits.length) :
    coveredBits (frameRead bits) = bits.take (bits.length - 16) := by
  obtain ⟨enough, kinds⟩ := spanLength_eq_some_iff.mp complete
  obtain ⟨first, tag, kind, rest, tagLength, rfl⟩ := exists_fields enough
  obtain rfl : first = false := Option.some_inj.mp start
  have spelled : bitsOf (BitVec.ofNat 24 (valueOf tag)) = tag := bitsOf_valueOf tagLength
  have total : (false :: (tag ++ kind :: rest)).length = 26 + rest.length := by
    simp only [List.length_cons, List.length_append, tagLength]; omega
  have first : (false :: (tag ++ kind :: rest)).take 26 = false :: (tag ++ [kind]) := by
    have split : false :: (tag ++ kind :: rest) = false :: (tag ++ [kind]) ++ rest := by
      rw [List.cons_append, List.append_assoc, List.singleton_append]
    rw [split, List.take_left' (by rw [List.length_cons, List.length_append, tagLength]; rfl)]
  have before (n : Nat) : (false :: (tag ++ kind :: rest)).take (26 + n) = false :: (tag ++ kind :: rest.take n) := by
    rw [List.take_add, drop_kind tagLength, first, List.cons_append, List.append_assoc, List.singleton_append]
  rw [getD_kind tagLength, total] at kinds
  rw [frameRead, getD_kind tagLength, take_tag tagLength, total]
  rcases kinds with ⟨rfl, length⟩ | ⟨rfl, read, length⟩
  · obtain last : 26 + rest.length - 16 = 26 + 0 := by omega
    simp only [if_true, coveredBits, spelled]
    rw [last, before, List.take_zero, List.singleton_append, List.cons_append]
  · rw [lengthRead, drop_kind tagLength] at length ⊢
    generalize hn : valueOf (rest.take 5) = n at length ⊢
    have field : bitsOf (BitVec.ofNat 5 n) = rest.take 5 := by
      rw [← hn, bitsOf_valueOf (by rw [List.length_take]; omega)]
    obtain ⟨count, payload⟩ := payloadBits_bytesRead (n := n) (bits := rest.drop 5) (by rw [List.length_drop]; omega)
    obtain last : 26 + rest.length - 16 = 26 + (5 + 8 * n) := by omega
    have held : (false :: (tag ++ false :: rest)).drop 31 = rest.drop 5 := by
      rw [← List.drop_drop (i := 5) (j := 26), drop_kind tagLength]
    simp only [Bool.false_eq_true, if_false, coveredBits, spelled]
    rw [held, count, field, payload, last, before, List.take_add]
    simp only [List.cons_append, List.nil_append]

theorem spanBits_frameRead {bits : List Bool} (start : bits.head? = some false)
    (complete : spanLength bits = some bits.length) (good : checkGood bits = true) :
    spanBits (frameRead bits) = bits := by
  have enough : 16 ≤ bits.length := Nat.le_trans (by decide) (length_of_complete complete)
  rw [spanBits, frameCheck, coveredBits_frameRead start complete, bitsOf_crcBits_of_checkGood enough good,
    List.take_append_drop]

theorem frameRead_wf {bits : List Bool} (complete : spanLength bits = some bits.length)
    (short : bits.getD 25 true = false → lengthRead bits ≤ 16) : (frameRead bits).wf = true := by
  obtain ⟨-, ⟨query, -⟩ | ⟨publish, read, length⟩⟩ := spanLength_eq_some_iff.mp complete
  · simp only [frameRead, query, if_true]
    rfl
  · obtain ⟨count, -⟩ := payloadBits_bytesRead (n := lengthRead bits) (bits := bits.drop 31)
      (by rw [List.length_drop]; omega)
    simp only [frameRead, publish, Bool.false_eq_true, if_false, BusFrame.wf, count]
    exact decide_eq_true (short publish)

end Sys2Proof.Machine
end

section
/-! PROOFS. The receiver on the Dorhal bus (05_the_dorhal_bus.md, R91, R93, R94, R99). -/

namespace Sys2Proof.Machine

-- The declarations are elaborated in turn: one thread does for the whole file.
set_option Elab.async false

/-! ### One bit of the fill span (R91, R94) -/

/-- The receiver with one bit of the span taken: a fill bit after a run of six, else a bit of the frame. -/
def Receiver.advance (r : Receiver) (b : Bool) : Receiver :=
  if r.run = 6 then { r with last := b, run := 1 }
  else { r with bits := r.bits ++ [b], last := b, run := if b = r.last then r.run + 1 else 1 }

theorem Receiver.advance_of_run {r : Receiver} (run : r.run = 6) (b : Bool) :
    r.advance b = { r with last := b, run := 1 } := if_pos run

theorem Receiver.advance_of_short {r : Receiver} (short : r.run ≠ 6) (b : Bool) :
    r.advance b = { r with bits := r.bits ++ [b], last := b, run := if b = r.last then r.run + 1 else 1 } :=
  if_neg short

/-- R91: a bit that breaks the fill rule. -/
def Receiver.badFill (r : Receiver) (b : Bool) : Prop := r.run = 6 ∧ b = r.last

/-- R94: the length field has just been read, and is out of range. -/
def Receiver.badLength (r : Receiver) : Prop :=
  r.bits.length = 31 ∧ r.bits.getD 25 true = false ∧ 16 < lengthRead r.bits

/-- R94: the last bit of the span has been read, its fill bit too. -/
def Receiver.complete (r : Receiver) : Prop := spanLength r.bits = some r.bits.length ∧ r.run ≠ 6

section
variable {r r' : Receiver} {b : Bool} {f : BusFrame} {drives : Bool}

/-- R94, R96: a bit of the span that is in order ends the span or goes on with it. -/
theorem Receiver.spanBit_of_good (fill : ¬ r.badFill b) (length : ¬ (r.run ≠ 6 ∧ (r.advance b).badLength)) :
    (¬ (r.advance b).complete ∧ r.spanBit b = .more (r.advance b)) ∨
      ((r.advance b).complete ∧ r.spanBit b = (r.advance b).endSpan) := by
  unfold Receiver.complete
  by_cases run : r.run = 6
  · have opposite : b ≠ r.last := fun same => fill ⟨run, same⟩
    simp only [Receiver.spanBit, if_pos run, if_neg opposite, Receiver.advance_of_run run]
    split
    · next whole => exact .inr ⟨⟨whole, by decide⟩, rfl⟩
    · next part => exact .inl ⟨fun both => part both.1, rfl⟩
  · have noForm : ¬ (r.advance b).badLength := fun bad => length ⟨run, bad⟩
    simp only [Receiver.badLength, Receiver.advance_of_short run] at noForm
    simp only [Receiver.spanBit, if_neg run, if_neg noForm, Receiver.advance_of_short run]
    exact (Decidable.em _).elim (fun whole => .inr ⟨whole, if_pos whole⟩) fun part => .inl ⟨part, if_neg part⟩

/-- A bit of the span that brings no fault was in order. -/
theorem Receiver.good_of_spanBit (more : r.spanBit b = .more r') :
    ¬ r.badFill b ∧ ¬ (r.run ≠ 6 ∧ (r.advance b).badLength) := by
  refine ⟨fun ⟨run, same⟩ => ?_, fun ⟨run, bad⟩ => ?_⟩
  · rw [Receiver.spanBit, if_pos run, if_pos same] at more
    cases more
  · simp only [Receiver.badLength, Receiver.advance_of_short run] at bad
    simp only [Receiver.spanBit, if_neg run, if_pos bad] at more
    cases more

theorem Receiver.endSpan_of_good (good : checkGood r.bits = true) :
    r.endSpan = .more { r with trailerRead := some 0 } := if_pos good

theorem Receiver.endSpan_eq_more (more : r.endSpan = .more r') :
    checkGood r.bits = true ∧ r' = { r with trailerRead := some 0 } := by
  unfold Receiver.endSpan at more
  split at more
  · next good => cases more; exact ⟨good, rfl⟩
  · cases more

theorem Receiver.read_of_span (span : r.trailerRead = none) (b : Bool) : r.read drives b = r.spanBit b := by
  simp only [Receiver.read, span]

theorem Receiver.read_of_trailer {n : Nat} (trailer : r.trailerRead = some n) (b : Bool) :
    r.read drives b = r.trailerBit drives n b := by
  simp only [Receiver.read, trailer]

/-! ### Levels in a row -/

theorem receive_cons_of_more (more : r.read drives b = .more r') (rest : List Bool) :
    receive drives r (b :: rest) = receive drives r' rest := by
  rw [receive, more]

theorem receive_append_of_more {first : List Bool} (more : receive drives r first = .more r') (rest : List Bool) :
    receive drives r (first ++ rest) = receive drives r' rest := by
  induction first generalizing r with
  | nil => cases more; rfl
  | cons b first ih =>
    rw [receive] at more
    split at more
    · next r1 one => rw [List.cons_append, receive_cons_of_more one, ih more]
    · cases more
    · cases more

/-- What leaves a receiver in its frame left it there at the first bit. -/
theorem read_of_receive_cons {rest : List Bool} (more : receive drives r (b :: rest) = .more r') :
    ∃ r1, r.read drives b = .more r1 ∧ receive drives r1 rest = .more r' := by
  rw [receive] at more
  split at more
  · next r1 one => exact ⟨r1, one, more⟩
  · cases more
  · cases more

/-- Past its first bit the trailer never waits for the ack slot again. -/
theorem trailerRead_of_receive {n : Nat} {levels : List Bool} (trailer : r.trailerRead = some n)
    (further : levels ≠ []) (more : receive drives r levels = .more r') : r'.trailerRead ≠ some 0 := by
  induction levels generalizing r n with
  | nil => exact absurd rfl further
  | cons b levels ih =>
    obtain ⟨r1, one, rest⟩ := read_of_receive_cons more
    obtain ⟨m, next⟩ : ∃ m, r1.trailerRead = .some (m + 1) := by
      rw [Receiver.read_of_trailer trailer, Receiver.trailerBit] at one
      split at one
      · split at one
        · cases one
        · cases one; exact ⟨0, rfl⟩
      · split at one
        · cases one
        · split at one
          · cases one
          · cases one; exact ⟨n, rfl⟩
    by_cases last : levels = []
    · subst last
      cases rest
      rw [next]
      nofun
    · exact ih next last rest

/-! ### The levels of a frame (R89, R93, R99) -/

/-- A receiver in the span of a frame, with the levels still to come. -/
def Receiver.Awaits (f : BusFrame) (r : Receiver) (levels : List Bool) : Prop :=
  r.trailerRead = none ∧ ∃ rest, r.bits ++ rest = spanBits f ∧ levels = fillFrom r.last r.run rest

theorem Receiver.awaits_start (f : BusFrame) : Receiver.start.Awaits f (fill (spanBits f)) := ⟨rfl, _, rfl, rfl⟩

theorem Receiver.Awaits.badFill {levels : List Bool} (awaits : r.Awaits f (b :: levels)) : ¬ r.badFill b := by
  obtain ⟨-, rest, -, levelsEq⟩ := awaits
  rintro ⟨run, same⟩
  rw [run, fillFrom_of_run, same] at levelsEq
  exact (Bool.eq_not_self _).mp (List.cons.inj levelsEq).1

theorem Receiver.Awaits.advance {levels : List Bool} (awaits : r.Awaits f (b :: levels)) :
    (r.advance b).Awaits f levels := by
  obtain ⟨span, rest, whole, levelsEq⟩ := awaits
  by_cases run : r.run = 6
  · rw [run, fillFrom_of_run] at levelsEq
    obtain ⟨rfl, tail⟩ := List.cons.inj levelsEq
    rw [Receiver.advance_of_run run]
    exact ⟨span, rest, whole, tail⟩
  · match rest with
    | [] => rw [fillFrom_nil_of_short _ run] at levelsEq; cases levelsEq
    | c :: rest =>
      rw [fillFrom_cons_of_short _ _ run] at levelsEq
      obtain ⟨rfl, tail⟩ := List.cons.inj levelsEq
      rw [Receiver.advance_of_short run]
      exact ⟨span, rest, by simpa using whole, tail⟩

theorem Receiver.Awaits.complete_iff {levels : List Bool} (wf : f.wf = true) (awaits : r.Awaits f levels) :
    r.complete ↔ levels = [] := by
  obtain ⟨-, rest, whole, rfl⟩ := awaits
  rw [Receiver.complete, rest_eq_nil_iff wf whole, fillFrom_eq_nil_iff]

theorem Receiver.Awaits.badLength {levels : List Bool} (wf : f.wf = true) (awaits : r.Awaits f levels) :
    ¬ r.badLength := by
  obtain ⟨-, rest, whole, -⟩ := awaits
  rintro ⟨length, publish, out⟩
  exact Nat.not_lt.mpr (lengthRead_le wf whole (by omega) publish) out

/-- The last level of a frame's span leaves the receiver before the ack slot, with the whole span read. -/
theorem Receiver.Awaits.read_last (wf : f.wf = true) (awaits : r.Awaits f [b]) :
    ∃ r', r.read drives b = .more r' ∧ r'.trailerRead = some 0 ∧ r'.bits = spanBits f := by
  have next := awaits.advance
  have whole := (next.complete_iff wf).mpr rfl
  obtain ⟨-, rest, bits, none⟩ := next
  obtain ⟨rfl, -⟩ := fillFrom_eq_nil_iff.mp none.symm
  rw [List.append_nil] at bits
  have good : checkGood (r.advance b).bits = true := by
    rw [bits]; exact checkGood_of_check _
  rcases Receiver.spanBit_of_good awaits.badFill fun bad => awaits.advance.badLength wf bad.2 with
    ⟨going, -⟩ | ⟨-, ended⟩
  · exact absurd whole going
  · rw [Receiver.read_of_span awaits.1, ended, Receiver.endSpan_of_good good]
    exact ⟨_, rfl, rfl, bits⟩

theorem Receiver.Awaits.read {levels : List Bool} (wf : f.wf = true) (awaits : r.Awaits f (b :: levels))
    (more : levels ≠ []) : r.read drives b = .more (r.advance b) := by
  rcases Receiver.spanBit_of_good awaits.badFill fun bad => awaits.advance.badLength wf bad.2 with
    ⟨-, going⟩ | ⟨ended, -⟩
  · rw [Receiver.read_of_span awaits.1, going]
  · exact absurd ((awaits.advance.complete_iff wf).mp ended) more

/-- Levels of a frame short of the end of its span leave the receiver in the span. -/
theorem Receiver.Awaits.receive_part {part rest : List Bool} (wf : f.wf = true) (more : rest ≠ [])
    (awaits : r.Awaits f (part ++ rest)) : ∃ r', receive drives r part = .more r' ∧ r'.trailerRead = none := by
  induction part generalizing r with
  | nil => exact ⟨r, rfl, awaits.1⟩
  | cons b part ih =>
    obtain ⟨r', read, span⟩ := ih awaits.advance
    have one := awaits.read (drives := drives) wf (List.append_ne_nil_of_right_ne_nil part more)
    exact ⟨r', by rw [receive_cons_of_more one, read], span⟩

/-- The levels of a frame's span bring the receiver to its ack slot. -/
theorem Receiver.Awaits.receive_span {levels : List Bool} (wf : f.wf = true) (some : levels ≠ [])
    (awaits : r.Awaits f levels) :
    ∃ r', receive drives r levels = .more r' ∧ r'.trailerRead = .some 0 ∧ r'.bits = spanBits f := by
  induction levels generalizing r with
  | nil => exact absurd rfl some
  | cons b levels ih =>
    by_cases more : levels = []
    · subst more
      obtain ⟨r', one, ended⟩ := awaits.read_last (drives := drives) wf
      exact ⟨r', by rw [receive_cons_of_more one, receive], ended⟩
    · obtain ⟨r', read, ended⟩ := ih more awaits.advance
      exact ⟨r', by rw [receive_cons_of_more (awaits.read wf more), read], ended⟩

end

theorem fill_spanBits_ne_nil (f : BusFrame) : fill (spanBits f) ≠ [] := by
  rw [spanBits, coveredBits]
  nofun

/-- A receiver before its ack slot that reads the trailer has its frame. -/
theorem receive_trailer {r : Receiver} {drives acked : Bool} (slot : r.trailerRead = some 0)
    (good : drives = true → acked = true) : receive drives r (trailer acked) = .frameEnd (frameRead r.bits) := by
  obtain ⟨bits, last, run, trailerRead⟩ := r
  subst slot
  cases drives with
  | false => rfl
  | true => cases good rfl; rfl

/-- R99: the levels of a frame come to that frame for a receiver, but for one that drives an ack slot and reads it
passive. -/
theorem receive_lineBits {f : BusFrame} (wf : f.wf = true) {drives acked : Bool} (good : drives = true → acked = true) :
    receive drives Receiver.start (lineBits acked f) = .frameEnd f := by
  obtain ⟨r, read, slot, bits⟩ :=
    (Receiver.awaits_start f).receive_span (drives := drives) wf (fill_spanBits_ne_nil f)
  rw [lineBits, receive_append_of_more read, receive_trailer slot good, bits, frameRead_spanBits wf]

/-! ### The ack slot (R93) -/

theorem ackSlotNext_iff (levels : List Bool) :
    ackSlotNext levels = true ↔ ∃ r, receive true Receiver.start levels = .more r ∧ r.trailerRead = some 0 := by
  unfold ackSlotNext
  cases receive true Receiver.start levels <;> simp

/-- Of a frame's levels, exactly those of its whole span are followed by the ack slot. -/
theorem ackSlotNext_lineBits {f : BusFrame} (wf : f.wf = true) (acked : Bool) (n : Nat) :
    ackSlotNext ((lineBits acked f).take n) = true ↔ n = (fill (spanBits f)).length := by
  have start := Receiver.awaits_start f
  rw [ackSlotNext_iff, lineBits, List.take_append]
  rcases Nat.lt_trichotomy n (fill (spanBits f)).length with before | same | after
  · have more : (fill (spanBits f)).drop n ≠ [] := by rwa [Ne, List.drop_eq_nil_iff, Nat.not_le]
    rw [← List.take_append_drop n (fill (spanBits f))] at start
    obtain ⟨r', read, span⟩ := start.receive_part (drives := true) wf more
    rw [Nat.sub_eq_zero_of_le (Nat.le_of_lt before), List.take_zero, List.append_nil, read]
    refine iff_of_false ?_ (Nat.ne_of_lt before)
    rintro ⟨r, ⟨⟩, slot⟩
    rw [span] at slot
    cases slot
  · obtain ⟨r', read, slot, -⟩ := start.receive_span (drives := true) wf (fill_spanBits_ne_nil f)
    rw [same, Nat.sub_self, List.take_zero, List.append_nil, List.take_length, read]
    exact iff_of_true ⟨r', rfl, slot⟩ rfl
  · obtain ⟨r', read, slot, -⟩ := start.receive_span (drives := true) wf (fill_spanBits_ne_nil f)
    have further : (trailer acked).take (n - (fill (spanBits f)).length) ≠ [] := by
      rw [Ne, List.take_eq_nil_iff]
      exact fun none => none.elim (by omega) nofun
    rw [List.take_of_length_le (Nat.le_of_lt after), receive_append_of_more read]
    refine iff_of_false ?_ (Nat.ne_of_gt after)
    rintro ⟨r, more, again⟩
    exact trailerRead_of_receive slot further more again

/-! ### What leads to the ack slot (R93, R94) -/

/-- A receiver in a span, with the levels read since the start bit. -/
structure Receiver.Reads (r : Receiver) (levels : List Bool) : Prop where
  span : r.trailerRead = none
  spelled : ∀ rest, fill (r.bits ++ rest) = levels ++ fillFrom r.last r.run rest
  short : 31 ≤ r.bits.length → r.bits.getD 25 true = false → lengthRead r.bits ≤ 16

/-- A receiver before the ack slot of the frame that its bits spell. -/
structure Receiver.Found (r : Receiver) (levels : List Bool) : Prop where
  slot : r.trailerRead = some 0
  spelled : fill r.bits = levels
  whole : spanLength r.bits = some r.bits.length
  good : checkGood r.bits = true
  short : r.bits.getD 25 true = false → lengthRead r.bits ≤ 16

theorem Receiver.reads_start : Receiver.start.Reads [] := ⟨rfl, fun _ => rfl, nofun⟩

section
variable {r r' : Receiver} {b : Bool} {levels : List Bool}

theorem Receiver.Reads.advance (reads : r.Reads levels) (filled : ¬ r.badFill b)
    (length : ¬ (r.run ≠ 6 ∧ (r.advance b).badLength)) : (r.advance b).Reads (levels ++ [b]) := by
  obtain ⟨span, spelled, short⟩ := reads
  by_cases run : r.run = 6
  · obtain rfl : b = !r.last := Bool.eq_not_of_ne fun same => filled ⟨run, same⟩
    rw [Receiver.advance_of_run run]
    refine ⟨span, fun rest => ?_, short⟩
    rw [spelled, run, fillFrom_of_run, List.append_assoc, List.singleton_append]
  · have noForm : ¬ (r.advance b).badLength := fun bad => length ⟨run, bad⟩
    rw [Receiver.advance_of_short run] at noForm ⊢
    refine ⟨span, fun rest => ?_, fun enough publish => ?_⟩
    · rw [List.append_assoc, List.singleton_append, spelled, fillFrom_cons_of_short _ _ run, List.append_assoc,
        List.singleton_append]
    · by_cases now : (r.bits ++ [b]).length = 31
      · exact Nat.not_lt.mp fun out => noForm ⟨now, publish, out⟩
      · have read : 31 ≤ r.bits.length := by
          simp only [List.length_append, List.length_singleton] at enough now
          omega
        simp only [lengthRead_append read, getD_kind_append (Nat.le_trans (by decide) read)] at publish ⊢
        exact short read publish

/-- A bit read in the span leaves the receiver there or before the ack slot. -/
theorem Receiver.Reads.read (reads : r.Reads levels) (more : r.read true b = .more r') :
    r'.Reads (levels ++ [b]) ∨ r'.Found (levels ++ [b]) := by
  rw [Receiver.read_of_span reads.span] at more
  obtain ⟨filled, length⟩ := Receiver.good_of_spanBit more
  have next := reads.advance filled length
  rcases Receiver.spanBit_of_good filled length with ⟨-, going⟩ | ⟨⟨whole, run⟩, ended⟩
  · rw [going] at more
    cases more
    exact .inl next
  · rw [ended] at more
    obtain ⟨good, rfl⟩ := Receiver.endSpan_eq_more more
    refine .inr ⟨rfl, ?_, whole, good, fun publish => ?_⟩
    · have spelled := next.spelled []
      rwa [List.append_nil, fillFrom_nil_of_short _ run, List.append_nil] at spelled
    · obtain ⟨-, ⟨query, -⟩ | ⟨-, read, -⟩⟩ := spanLength_eq_some_iff.mp whole
      · exact absurd (publish.symm.trans query) nofun
      · exact next.short read publish

/-- Before an ack slot stand the levels of a whole span, good check and all. -/
theorem Receiver.Reads.found {further : List Bool} (reads : r.Reads levels)
    (more : receive true r further = .more r') (slot : r'.trailerRead = some 0) : r'.Found (levels ++ further) := by
  induction further generalizing r levels with
  | nil =>
    cases more
    exact absurd (reads.span.symm.trans slot) nofun
  | cons b further ih =>
    obtain ⟨r1, one, rest⟩ := read_of_receive_cons more
    have joined : levels ++ b :: further = levels ++ [b] ++ further := by simp
    rw [joined]
    rcases reads.read one with next | found
    · exact ih next rest
    · by_cases last : further = []
      · subst last
        cases rest
        rwa [List.append_nil]
      · exact absurd slot (trailerRead_of_receive found.slot last rest)

end

/-- Of levels that begin with a start bit, only those of the whole fill span of a frame are followed by an ack slot. -/
theorem exists_frame_of_ackSlotNext {levels : List Bool} (start : levels.head? = some false)
    (slot : ackSlotNext levels = true) : ∃ f : BusFrame, f.wf = true ∧ levels = fill (spanBits f) := by
  obtain ⟨r, read, ended⟩ := (ackSlotNext_iff levels).mp slot
  obtain ⟨-, spelled, whole, good, short⟩ := Receiver.reads_start.found read ended
  rw [List.nil_append] at spelled
  have first : r.bits.head? = some false := by
    rw [← spelled] at start
    cases bits : r.bits with
    | nil => rw [bits] at start; cases start
    | cons b rest =>
      rw [bits, fill, fillFrom_cons_of_short _ _ (by decide)] at start
      exact start
  exact ⟨frameRead r.bits, frameRead_wf whole short, by rw [spanBits_frameRead first whole good, spelled]⟩

end Sys2Proof.Machine
end

section
/-! PROOFS. The transmitter on the Dorhal bus, and the levels of BUS_TX (05_the_dorhal_bus.md, R92 to R95, R99;
06_the_bus_engine.md, R105). -/

namespace Sys2Proof.Machine

-- The declarations are elaborated in turn: one thread does for the whole file.
set_option Elab.async false

/-! ### The bits a transmitter sends (R89, R91) -/

/-- The levels of the span as it is sent are those of its fill. -/
theorem sentFrom_levels (n : Nat) (last : Bool) (run : Nat) (bits : List Bool) :
    (sentFrom n last run bits).map SentBit.level = fillFrom last run bits := by
  induction bits generalizing n last run with
  | nil => unfold sentFrom fillFrom; split <;> rfl
  | cons b bits ih =>
    unfold sentFrom fillFrom
    split
    · simp only [List.map_cons, ih]
    · simp only [List.map_cons, ih]

/-- A transmitter sends its ack slot passive. -/
theorem sentBits_levels (f : BusFrame) : (sentBits f).map SentBit.level = lineBits false f := by
  rw [sentBits, List.map_append, sentFrom_levels]
  rfl

/-- R95: a bit before the ack slot is good where it is read as it was sent. -/
def SentBit.inSpan (x : SentBit) : Prop := x.cls ≠ .ackSlot ∧ x.cls ≠ .endField

theorem bitOutcome_of_same {x : SentBit} (span : x.inSpan) : bitOutcome x x.level = none := by
  obtain ⟨noAck, noEnd⟩ := span
  obtain ⟨cls, level, afterTag⟩ := x
  cases cls with
  | ackSlot => exact absurd rfl noAck
  | endField => exact absurd rfl noEnd
  | _ => exact if_pos rfl

theorem classOf_inSpan (n : Nat) (level afterTag : Bool) : (SentBit.mk (classOf n) level afterTag).inSpan := by
  unfold SentBit.inSpan classOf
  split
  · exact ⟨nofun, nofun⟩
  · split <;> exact ⟨nofun, nofun⟩

theorem sentFrom_inSpan (n : Nat) (last : Bool) (run : Nat) (bits : List Bool) :
    ∀ x ∈ sentFrom n last run bits, x.inSpan := by
  have fillBit (level afterTag : Bool) : (SentBit.mk .fillBit level afterTag).inSpan := ⟨nofun, nofun⟩
  induction bits generalizing n last run with
  | nil =>
    unfold sentFrom
    split
    · simpa using fillBit _ _
    · nofun
  | cons b bits ih =>
    unfold sentFrom
    split
    · simpa using ⟨fillBit _ _, classOf_inSpan n b _, ih _ _ _⟩
    · simpa using ⟨classOf_inSpan n b _, ih _ _ _⟩

/-! ### The bits sent against the levels read (R92, R95, R99) -/

/-- The own levels of the span bring a transmitter to its ack slot. -/
theorem transmit_of_span {span : List SentBit} (inSpan : ∀ x ∈ span, x.inSpan) (after : List SentBit)
    (rest : List Bool) : transmit (span ++ after) (span.map SentBit.level ++ rest) = transmit after rest := by
  induction span with
  | nil => rfl
  | cons x span ih =>
    obtain ⟨first, others⟩ := List.forall_mem_cons.mp inSpan
    simp only [List.cons_append, List.map_cons, transmit, bitOutcome_of_same first]
    exact ih others

/-- Fewer of them leave it sending. -/
theorem transmit_of_part {span : List SentBit} (inSpan : ∀ x ∈ span, x.inSpan) (after : List SentBit) {n : Nat}
    (before : n < span.length) : transmit (span ++ after) ((span.map SentBit.level).take n) = .going := by
  induction span generalizing n with
  | nil => cases before
  | cons x span ih =>
    obtain ⟨first, others⟩ := List.forall_mem_cons.mp inSpan
    cases n with
    | zero => rfl
    | succ n =>
      simp only [List.cons_append, List.map_cons, List.take_succ_cons, transmit, bitOutcome_of_same first]
      exact ih others (Nat.lt_of_succ_lt_succ before)

section
variable (f : BusFrame)

/-- The levels of the part's frame up to its ack slot are its own; the trailer decides. -/
theorem transmit_lineBits (levels : List Bool) :
    transmit (sentBits f) (fill (spanBits f) ++ levels) =
      transmit (⟨.ackSlot, true, true⟩ :: List.replicate 9 ⟨.endField, true, true⟩) levels := by
  have span := transmit_of_span (sentFrom_inSpan 0 true 0 (spanBits f))
    (⟨.ackSlot, true, true⟩ :: List.replicate 9 ⟨.endField, true, true⟩) levels
  rwa [sentFrom_levels] at span

/-- R99: a frame that is acknowledged is Sent. -/
theorem transmitterCommand_acked : transmitterCommand f (lineBits true f) = some .txSent := by
  rw [transmitterCommand, lineBits, transmit_lineBits]
  rfl

/-- R95: one that is not meets NO_ACK. -/
theorem transmitterCommand_noAck : transmitterCommand f (lineBits false f) = some (.txFaulted .noAck true) := by
  rw [transmitterCommand, lineBits, transmit_lineBits]
  rfl

theorem length_lineBits (acked : Bool) : (lineBits acked f).length = (fill (spanBits f)).length + 10 := by
  rw [lineBits, List.length_append]
  rfl

/-! ### The level of the part's own frame (R105) -/

theorem sentLevel_of_going {levels : List Bool} (going : transmit (sentBits f) levels = .going) :
    sentLevel f levels = (lineBits false f).getD levels.length true := by
  simp only [sentLevel, going, sentBits_levels]

theorem sentLevel_of_fate {levels : List Bool} (fate : transmit (sentBits f) levels ≠ .going) :
    sentLevel f levels = true := by
  unfold sentLevel
  split
  · next going => exact absurd going fate
  · rfl
  · rfl
  · rfl

/-- From its ack slot on a transmitter sends passive bits. -/
theorem lineBits_getD_of_trailer {n : Nat} (after : (fill (spanBits f)).length ≤ n) :
    (lineBits false f).getD n true = true := by
  rw [lineBits, getD_append_of_le after]
  exact getD_replicate 10 _ true

/-- The part's own levels, whether or not its frame is acknowledged. -/
theorem sentLevel_lineBits (acked : Bool) (n : Nat) :
    sentLevel f ((lineBits acked f).take n) = (lineBits false f).getD n true := by
  by_cases before : n < (fill (spanBits f)).length
  · have part := transmit_of_part (sentFrom_inSpan 0 true 0 (spanBits f))
      (⟨.ackSlot, true, true⟩ :: List.replicate 9 ⟨.endField, true, true⟩) (n := n)
      (by rwa [← List.length_map SentBit.level, sentFrom_levels])
    rw [sentFrom_levels] at part
    have going : transmit (sentBits f) ((fill (spanBits f)).take n) = .going := part
    rw [lineBits, List.take_append_of_le_length (Nat.le_of_lt before), sentLevel_of_going f going,
      List.length_take_of_le (Nat.le_of_lt before)]
  · have after := Nat.not_lt.mp before
    rw [lineBits_getD_of_trailer f after]
    by_cases going : transmit (sentBits f) ((lineBits acked f).take n) = .going
    · rw [sentLevel_of_going f going, lineBits_getD_of_trailer f]
      rw [List.length_take, length_lineBits]
      omega
    · exact sentLevel_of_fate f going

theorem transmit_of_command {levels : List Bool} (command : transmitterCommand f levels ≠ none) :
    transmit (sentBits f) levels ≠ .going := fun going => command (by rw [transmitterCommand, going])

end

/-- A receiver that came to a command waits for no ack slot. -/
theorem ackSlotNext_of_command {levels : List Bool} (command : receiverCommand .normal levels ≠ none) :
    ackSlotNext levels = false := by
  rw [← Bool.not_eq_true, ackSlotNext_iff]
  rintro ⟨r, more, -⟩
  refine command ?_
  have more' : receive (Mode.normal = .normal) Receiver.start levels = .more r := more
  rw [receiverCommand, more']

/-! ### BUS_TX by the engine's phase (R105) -/

section
variable {s : State}

theorem State.busTx_of_idle (levels : List Bool)
    (idle : (s.engine.state ≠ .active ∧ s.engine.state ≠ .stopping) ∨ s.engine.mode ≠ .normal) :
    s.busTx levels = true := by
  have passive : ¬ (s.engine.onLine && s.engine.mode = .normal) = true := by
    rw [Bool.and_eq_true, decide_eq_true_eq, Engine.onLine_iff]
    rintro ⟨place, normal⟩
    rcases idle with ⟨noActive, noStopping⟩ | mode
    · exact place.elim noActive noStopping
    · exact mode normal
  exact if_neg passive

/-- R88, R98: between frames BUS_TX is passive. -/
theorem State.busTx_of_wait (levels : List Bool)
    (phase : s.engine.phase = .quiet ∨ s.engine.phase = .gap ∨ s.engine.phase = .delimiter) :
    s.busTx levels = true := by
  unfold State.busTx
  split
  · rcases phase with phase | phase | phase <;> rw [phase]
  · rfl

/-- R105: in ACTIVE and STOPPING of NORMAL mode, by the phase. -/
theorem State.busTx_of_onLine (place : s.engine.state = .active ∨ s.engine.state = .stopping)
    (normal : s.engine.mode = .normal) (levels : List Bool) :
    s.busTx levels = (match s.engine.phase with
      | .quiet => true
      | .gap => true
      | .delimiter => true
      | .receiving => !ackSlotNext levels
      | .burst active _ => !(active && faultInProgress levels)
      | .sending => match s.txBuffer with
        | some rec => sentLevel rec.frame levels
        | none => true) := by
  have drives : (s.engine.onLine && s.engine.mode = .normal) = true := by
    rw [Bool.and_eq_true, decide_eq_true_eq]
    exact ⟨s.engine.onLine_iff.mpr place, normal⟩
  exact if_pos drives

end

/-- An active level is driven exactly where `p` holds. -/
theorem not_eq_ite_of_iff {b : Bool} {p : Prop} [Decidable p] (drives : b = true ↔ p) :
    (!b) = if p then false else true := by
  split
  · next holds => rw [drives.mpr holds]; rfl
  · next fails => rw [Bool.eq_false_iff.mpr (mt drives.mp fails)]; rfl

/-- Settles O60: the round trips of both lines, and BUS_TX by the engine's phase. -/
theorem theLineCarriesEveryFrameWhole : Obligations.TheLineCarriesEveryFrameWhole := by
  refine ⟨fun f wf => ⟨?_, fun acked => ?_, transmitterCommand_acked f, transmitterCommand_noAck f⟩,
    fun s levels => ?_, fun bytes idle => ?_, fun b stop rest => ?_,
    fun n => ⟨serialRead_replicate_low n, hostInCommand_low n⟩,
    fun s idle => ⟨fun frame begun => ⟨?_, State.hostOutLevel_of_sent begun⟩,
      fun none => State.hostOutLevel_of_none none idle⟩,
    fun kind seq body fits => hostInCommand_of_envelope fits⟩
  · have read := receive_lineBits wf (drives := true) (acked := true) fun _ => rfl
    have read' : receive (Mode.normal = .normal) Receiver.start (lineBits true f) = .frameEnd f := read
    rw [receiverCommand, read']
  · have read := receive_lineBits wf (drives := false) (acked := acked) nofun
    have read' : receive (Mode.listen = .normal) Receiver.start (lineBits acked f) = .frameEnd f := read
    rw [receiverCommand, read']
  · intro e
    refine ⟨State.busTx_of_idle levels, State.busTx_of_wait levels, fun place normal => ?_⟩
    have online := State.busTx_of_onLine place normal
    refine ⟨fun active ticked phase => ?_, fun phase command => ?_, fun phase start low => ?_,
      fun phase f acked n wf _ => ?_, fun phase rec buffer => ⟨fun command => ?_, fun _ acked n => ?_⟩⟩
    · have burst : (active && faultInProgress levels) = true ↔ active = true ∧ levels.length < 8 := by
        rw [Bool.and_eq_true, faultInProgress, decide_eq_true_eq]
        exact Iff.rfl
      rw [online, phase]
      exact not_eq_ite_of_iff burst
    · rw [online, phase, ackSlotNext_of_command command]
      rfl
    · rw [online, phase] at low
      exact exists_frame_of_ackSlotNext start (by simpa using low)
    · rw [online, phase]
      exact not_eq_ite_of_iff (ackSlotNext_lineBits wf acked n)
    · rw [online, phase, buffer]
      exact sentLevel_of_fate _ (transmit_of_command _ command)
    · rw [online, phase, buffer]
      exact sentLevel_lineBits _ acked n
  · rw [serialRead_of_idle]
    simpa [serialRead] using serialRead_serialLine bytes []
  · have nine : (serialBits b).take 9 = false :: (List.range 8).map fun i => b.getLsbD i :=
      List.take_left' (by simp)
    rw [nine, serialRead_of_byte]
  · rw [State.hostOutLevels begun, serialRead_serialLine]
    simpa [serialRead] using serialRead_of_idle idle []

end Sys2Proof.Machine
end
